-- ==== Sys2Proof/Word.lean ====
section
/-! DEFINITION. The words of the ZB2408: bytes, memory words, word and byte addresses (spec 00, Conventions). -/

namespace Sys2Proof

/-- A byte. -/
abbrev Byte := BitVec 8

/-- A memory word: 4 bytes, lane 0 in bits 7 to 0. -/
abbrev Word := BitVec 32

/-- A word address of the 4 MiB window (MA19–MA0, BA21–BA2). -/
abbrev WordAddr := BitVec 20

/-- A byte address of the 4 MiB window (AA21–AA0). -/
abbrev ByteAddr := BitVec 22

/-- An index of the object table (R1). -/
abbrev EntryIndex := Fin 64

end Sys2Proof
end

