-- ==== Sys2Proof/Config.lean ====
section
/-! DEFINITION. What the part fixes once, and the one free value of the model. -/

namespace Sys2Proof.Config

/-- Entries of the object table (R1). -/
abbrev entries : Nat := 64

/-- Snapshot slots of one port (R42). -/
def slotsPerPort : Nat := 4

/-- Staging records of one port (R69). -/
def recordsPerPort : Nat := 4

/-- Records the event queue can hold (R154). -/
def queueCapacity : Nat := 32

/-- The pending-drop count stays at this value once it is reached (R158). -/
def dropLimit : Nat := 255

/-- Words of the memory window (R4). -/
def windowWords : Nat := 1048576

/-- The memory answer limit, in ticks (R99). -/
def answerLimit : Nat := 16

/-- The largest argument length a frame may state (R169). -/
def maxArgs : Nat := 11

/-- Records one PEEK_EVENTS returns at most (R160). -/
def peekMax : Nat := 8

/-- A FREE VALUE, DESIGN CHOICE (log 6): which of several orders left open by the spec is taken.
It is applied to `State.choices`, so that every draw is a fresh one. Nothing is known of it. -/
opaque freeChoice : Nat → Nat

/-- A bound on the classifications again within one event (log 22). -/
def settleFuel : Nat := 64

/-- A bound on the expiries one tick can find overdue (log 4): 8 snapshots, 8 records, 2 holds, 1 attempt. -/
def overdueFuel : Nat := 32

end Sys2Proof.Config
end

