-- ==== Sys2Proof/Syntax.lean ====
section
/-! DEFINITION. The commands of the block: one constructor for each row of spec/opcode_table.json.
The table gives the rows no operands; the operands here are the model's reading of what each event carries (log 1). -/

namespace Sys2Proof

/-- The two host ports. -/
inductive Port where
  | a
  | b
deriving DecidableEq, Repr

/-- "The other port" (00, Conventions). -/
def Port.other : Port → Port
  | .a => .b
  | .b => .a

/-- The strobes port A samples asserted at an arrival (R118). -/
inductive Strobes where
  /-- ARDn alone. -/
  | read
  /-- AWRn alone. -/
  | write
  /-- ARDn and AWRn together: an access of no direction. -/
  | both
deriving DecidableEq, Repr

/-- What a port samples on its strobe pins when a master releases a strobe (R120, R128). -/
inductive StrobeSample where
  /-- Port A: is ARDn still asserted, is AWRn still asserted. -/
  | portA (readLow writeLow : Bool)
  /-- Port B: BSTBn is deasserted. -/
  | portB
deriving DecidableEq, Repr

/-- The link commands a code byte can name (R190), NOP aside. -/
inductive Command where
  | readStatus | setTimebase | setHold | setRetry | setAlert | writeEntry | deleteEntry | readEntry
  | clearPoison | peekEvents | ackEvents | flush
deriving DecidableEq, Repr

/-- An MVALn strobe of memory: whether MREQn stands asserted at it (R96; log 31), and MST1–MST0. -/
structure MemoryStrobe where
  requested : Bool
  mst : BitVec 2
deriving DecidableEq, Repr

/-- The commands of the block, in the order of spec/opcode_table.json.
A link row carries the tag and the argument bytes of a frame whose code is the row's; the frame's
argument length byte and check byte are those that R189 gives. -/
inductive Instr where
  /-- RESETn asserted. -/
  | deviceReset
  /-- RESETn released. -/
  | deviceResetRelease
  /-- ARSTn or BRSTn asserted. -/
  | portReset (p : Port)
  /-- ARSTn or BRSTn released. -/
  | portResetRelease (p : Port)
  /-- Port A samples a strobe asserted: is ACSn low, which strobes, AA21–AA0, AD7–AD0. -/
  | portAArrival (selected : Bool) (strobes : Strobes) (addr : ByteAddr) (data : Byte)
  /-- Port B samples BSTBn asserted: BA21–BA2, is BWRn low, the lanes enabled, BD31–BD0. -/
  | portBArrival (word : WordAddr) (isWrite : Bool) (enabled : BitVec 4) (data : Word)
  /-- A master releases a strobe. -/
  | strobeRelease (sample : StrobeSample)
  /-- The time base produces one tick. -/
  | tick
  /-- The limit timer of the port's OPEN snapshot on the entry expires. -/
  | snapshotLimitExpiry (p : Port) (e : EntryIndex)
  /-- The staging timer of the port's OPEN record on the entry expires. -/
  | stagingLimitExpiry (p : Port) (e : EntryIndex)
  /-- The hold limit of the port's HELD access expires. -/
  | holdLimitExpiry (p : Port)
  /-- The answer limit of the memory attempt in flight expires. -/
  | memoryAnswerLimitExpiry
  /-- The arbiter grants the memory port. -/
  | grant
  /-- MVALn with one read word on MD31–MD0 and its status. -/
  | memoryReadWord (data : Word) (strobe : MemoryStrobe)
  /-- MVALn with the status of a write transfer. -/
  | memoryWriteAnswer (strobe : MemoryStrobe)
  /-- MSELn asserted. -/
  | mselnAssert
  | nop (tag : Byte) (args : List Byte)
  | readStatus (tag : Byte) (args : List Byte)
  | setTimebase (tag : Byte) (args : List Byte)
  | setHold (tag : Byte) (args : List Byte)
  | setRetry (tag : Byte) (args : List Byte)
  | setAlert (tag : Byte) (args : List Byte)
  | writeEntry (tag : Byte) (args : List Byte)
  | deleteEntry (tag : Byte) (args : List Byte)
  | readEntry (tag : Byte) (args : List Byte)
  | clearPoison (tag : Byte) (args : List Byte)
  | peekEvents (tag : Byte) (args : List Byte)
  | ackEvents (tag : Byte) (args : List Byte)
  | flush (tag : Byte) (args : List Byte)
  /-- A frame whose code names no command. -/
  | unknownCommand (code tag : Byte) (args : List Byte)
  /-- The pending request completes. -/
  | requestCompletion
  /-- MSELn released after the bits `mdi` (first bit first) were sampled at the rising edges of MCK. -/
  | discardedFrame (mdi : List Bool)
deriving DecidableEq, Repr

end Sys2Proof
end

