-- ==== Sys2Proof/Machine/State.lean ====
section
/-! DEFINITION. Everything the block holds, as plain data, and its value after reset.
INVENTORY.md, "State", lists each piece with the rule that names it. -/

namespace Sys2Proof.Machine

open Sys2Proof

/-! ## Things there are two of, one per port -/

/-- One value for port A and one for port B. -/
structure PerPort (α : Type) where
  a : α
  b : α
deriving DecidableEq, Repr

/-- The port's value. -/
def PerPort.get {α : Type} (x : PerPort α) : Port → α
  | .a => x.a
  | .b => x.b

/-- The port's value replaced. -/
def PerPort.set {α : Type} (x : PerPort α) (p : Port) (v : α) : PerPort α :=
  match p with
  | .a => { x with a := v }
  | .b => { x with b := v }

/-! ## The object table (R1, R12) -/

/-- R6. -/
inductive Order where
  | any | leadLow | leadHigh
deriving DecidableEq, Repr

/-- R7. -/
inductive ReadPolicy where
  | snapshot | through
deriving DecidableEq, Repr

/-- R7. -/
inductive WritePolicy where
  | staged | through
deriving DecidableEq, Repr

/-- R8. -/
inductive Claim where
  | shared | exclusive
deriving DecidableEq, Repr

/-- R9. -/
inductive Stray where
  | pass | fault
deriving DecidableEq, Repr

/-- R10. -/
inductive Writers where
  | noWriter | a | b | ab
deriving DecidableEq, Repr

/-- An installed content: the fields of section 1.2. `Content.legal` holds them to the ranges of R18. -/
structure Content where
  base : Nat
  length : Nat
  order : Order
  readPolicy : ReadPolicy
  writePolicy : WritePolicy
  claim : Claim
  stray : Stray
  writers : Writers
  snapshotLimit : Nat
  stagingLimit : Nat
deriving DecidableEq, Repr

/-- A pending replacement (R16): a full content, or "empty", the pending delete. -/
inductive Replacement where
  | content (c : Content)
  | delete
deriving DecidableEq, Repr

/-- A poison cause (R17). -/
structure PoisonCause where
  port : Port
  attempts : Nat
deriving DecidableEq, Repr

/-- An entry with the parts R12 gives it in each state. The user count of an EMPTY or POISONED entry is 0. -/
inductive Entry where
  | empty
  | active (c : Content) (version : BitVec 16) (users : Nat)
  | draining (c : Content) (version : BitVec 16) (users : Nat) (replacement : Replacement)
  | poisoned (c : Content) (version : BitVec 16) (replacement : Option Replacement) (cause : PoisonCause)
deriving DecidableEq, Repr

/-! ## Limit timers (R40, R41) -/

/-- A running limit timer: the limit it took at its start and the ticks it has counted. -/
structure Timer where
  limit : Nat
  counted : Nat
deriving DecidableEq, Repr

/-! ## Snapshots (R42) and staging records (R69)

A slot or record that is FREE is one that is not listed (log 13). -/

/-- A slot in use: FILLING, or OPEN with its data, its coverage (object bytes, rising) and its timer. -/
inductive SlotState where
  | filling
  | opened (data : List Word) (coverage : List Nat) (timer : Timer)
deriving DecidableEq, Repr

/-- A snapshot: a slot in use. -/
structure Snapshot where
  entry : EntryIndex
  state : SlotState
deriving DecidableEq, Repr

/-- An OPEN staging record. Position j holds extent byte j when it is in the written mask. -/
structure OpenRecord where
  entry : EntryIndex
  bytes : List (Option Byte)
  timer : Timer
deriving DecidableEq, Repr

/-- A QUEUED or COMMITTING record, with the port it belongs to. -/
structure CommitRecord where
  port : Port
  entry : EntryIndex
  bytes : List (Option Byte)
deriving DecidableEq, Repr

/-! ## Host ports (R117) -/

/-- The direction of an access; R118 gives port A accesses of no direction. -/
inductive Direction where
  | read | write | neither
deriving DecidableEq, Repr

/-- An access in progress, as captured at arrival (R117 to R119).
`data` holds the bytes of the enabled lanes of a write, and 0 elsewhere (log 26). -/
structure Access where
  word : WordAddr
  lanes : BitVec 4
  direction : Direction
  address : ByteAddr
  data : Word
  limit : Nat
deriving DecidableEq, Repr

/-- R35. -/
inductive HoldCause where
  | memory | slot | record | claim | drain | ownCommit
deriving DecidableEq, Repr

/-- What a port keeps of a HELD access: its cause, the entry of its latest classification, its timer, its released flag. -/
structure Held where
  access : Access
  cause : HoldCause
  entry : Option EntryIndex
  timer : Timer
  released : Bool
deriving DecidableEq, Repr

/-- What a port keeps of an access IN_TRANSFER. `flushed`: a FLUSH has fixed its answer as an error (R135). -/
structure Running where
  access : Access
  released : Bool
  flushed : Bool
deriving DecidableEq, Repr

/-- An answer: with error or plain, and the word a read is answered with. -/
structure Answer where
  error : Bool
  data : Option Word
deriving DecidableEq, Repr

/-- R117. -/
inductive PortState where
  | idle
  | held (h : Held)
  | inTransfer (r : Running)
  | answered (a : Access) (ans : Answer)
  | inReset
deriving DecidableEq, Repr

/-- A host port: its state, the arming condition of R120, its strobe and reset line as last sampled, its setting. -/
structure HostPort where
  state : PortState
  armed : Bool
  strobeLow : Bool
  resetLow : Bool
  holdLimit : Nat
deriving DecidableEq, Repr

/-! ## Memory port (R95, R100) -/

/-- R100. -/
inductive Requester where
  | port (p : Port)
  | commit
deriving DecidableEq, Repr

/-- R95. -/
inductive TransferKind where
  | singleRead | singleWrite | burstRead | burstWrite
deriving DecidableEq, Repr

/-- What a transfer's result is for (R95). It names the requester too. -/
inductive Purpose where
  | plain (p : Port) (address : ByteAddr) (entry : Option EntryIndex)
  | fill (p : Port) (address : ByteAddr) (entry : EntryIndex)
  | commit (p : Port) (entry : EntryIndex)
deriving DecidableEq, Repr

/-- One word of a write transfer: its data and the lanes to be written. -/
structure WriteWord where
  data : Word
  lanes : BitVec 4
deriving DecidableEq, Repr

/-- A transfer as asked for (R95). -/
structure Transfer where
  kind : TransferKind
  first : WordAddr
  length : Nat
  writes : List WriteWord
  purpose : Purpose
deriving DecidableEq, Repr

/-- R97. -/
inductive ReadStatus where
  | good | fixed | bad
deriving DecidableEq, Repr

/-- The transfer in flight (R95, R99, R106). `attempts` counts the attempt under way.
`orphan`: a port reset has ended the access it was made for (R123). -/
structure InFlight where
  transfer : Transfer
  allowance : Nat
  attempts : Nat
  taken : List (Word × ReadStatus)
  timer : Timer
  orphan : Bool
deriving DecidableEq, Repr

/-- The memory port and its arbiter (R100, R110). -/
structure MemoryPort where
  inFlight : Option InFlight
  lastGranted : Requester
  waiting : PerPort (Option Transfer)
  waitingCommit : Option Transfer
  retryLimit : Nat
deriving DecidableEq, Repr

/-! ## Time base (R38, R39) -/

/-- The setting, the setting the period under way is counted under, and the core clock periods counted in it.
`ticked` is the model's own: TICK was the last thing that happened, so that a request taken now is taken together with that
tick (R185; log 21). -/
structure TimeBase where
  setting : Nat
  underWay : Nat
  count : Nat
  ticked : Bool
deriving DecidableEq, Repr

/-! ## Event queue (R154, R155) -/

/-- R155. -/
inductive EventKind where
  | snapExpired | stageExpired | stageRestarted | strayRead | strayWrite | writeDenied | poisonRefused
  | holdExpired | readFailed | writeFailed | commitFailed | commitDiscarded | recovered | portReset
  | flushed | entryInstalled | linkError
deriving DecidableEq, Repr

/-- An event record (R155). -/
structure EventRecord where
  sequence : BitVec 16
  kind : EventKind
  port : Option Port
  entry : Option EntryIndex
  address : Option ByteAddr
  detail : Option Nat
  dropped : Option Nat
deriving DecidableEq, Repr

/-- The event queue and the alert settings (R154). -/
structure EventQueue where
  records : List EventRecord
  nextSequence : BitVec 16
  drops : Nat
  threshold : Nat
  poisonAlert : Bool
deriving DecidableEq, Repr

/-! ## Link (R167, R168, R174) -/

/-- R176. -/
inductive Status where
  | none | pending | ok | okDraining | badCommand | badLength | badArg | overlap | noEntry | notPoisoned
deriving DecidableEq, Repr

/-- R170. -/
inductive LinkCause where
  | truncated | check | length | busyDiscard
deriving DecidableEq, Repr

/-- The image of the response slot fixed for a transaction (R168). -/
structure Image where
  tag : Byte
  status : Status
  results : List Byte
deriving DecidableEq, Repr

/-- MSELn: high, low in a select period that is ignored (R186), or low with a transaction in progress. -/
inductive Select where
  | high
  | ignored
  | active (image : Image)
deriving DecidableEq, Repr

/-- The response slot (R174) and the transaction in progress. -/
structure Link where
  tag : Byte
  status : Status
  results : List Byte
  pendingMark : Bool
  select : Select
deriving DecidableEq, Repr

/-! ## Output pins: a Bool is a level, true high; an absent value is three-state or not driven -/

/-- AWAITn, AERRn, AD7–AD0. -/
structure PortAPins where
  awaitn : Bool
  aerrn : Bool
  ad : Option Byte
deriving DecidableEq, Repr

/-- BACKn, BERRn, BD31–BD0. -/
structure PortBPins where
  backn : Bool
  berrn : Bool
  bd : Option Word
deriving DecidableEq, Repr

/-- MREQn, MA19–MA0, MWRn, MLEN2–MLEN0, MBE3n–MBE0n, MD31–MD0. -/
structure MemoryPins where
  mreqn : Bool
  ma : Option WordAddr
  mwrn : Option Bool
  mlen : Option (BitVec 3)
  mben : BitVec 4
  md : Option Word
deriving DecidableEq, Repr

/-- The output pins. `alertn` is true while ALERTn is released. `memory` is the levels the memory pins take, in order, since
the event that set them: a write attempt presents its words one after another (R96). -/
structure Pins where
  portA : PortAPins
  portB : PortBPins
  memory : List MemoryPins
  mdo : Option Bool
  alertn : Bool
deriving DecidableEq, Repr

/-! ## The state -/

/-- The state of the block, with the queue of the commands that wait.
`claims` is the claim holder of each entry (R86); `queue` is the commit queue, oldest first (R79); `inReset` is
RESETn asserted; `choices` counts the free choices drawn (the model's own, log 6). -/
structure State where
  table : Vector Entry Config.entries
  snaps : PerPort (List Snapshot)
  recs : PerPort (List OpenRecord)
  queue : List CommitRecord
  claims : Vector (Option Port) Config.entries
  ports : PerPort HostPort
  mem : MemoryPort
  time : TimeBase
  events : EventQueue
  link : Link
  inReset : Bool
  pins : Pins
  choices : Nat
  pending : List Instr
deriving DecidableEq, Repr

/-! ## One event in progress -/

/-- Who reports an event; reports of one source keep their order, reports of different sources may enter in any
(R159). The table counts as one source for each entry (log 23). -/
inductive Source where
  | snapshotUnit | stagingUnit | port (p : Port) | memoryPort | table (e : EntryIndex) | link
deriving DecidableEq, Repr

/-- An event as a block reports it, before the queue numbers it (R155). -/
structure Report where
  source : Source
  kind : EventKind
  port : Option Port
  entry : Option EntryIndex
  address : Option ByteAddr
  detail : Option Nat
deriving DecidableEq, Repr

/-- A state in the middle of one event: what has been reported so far, and which port's held access is to be
classified again (R36, R37) before the event ends. -/
structure Work where
  s : State
  reports : List Report
  again : PerPort Bool
deriving DecidableEq, Repr

/-! ## How a step can stop -/

/-- The part has no fault: every failure the spec describes is an answer, an event, a status or a state.
There is no constructor, so no step faults. -/
inductive Fault where
deriving DecidableEq, Repr

/-- No meaning of this model refuses. -/
inductive Refusal where
  /-- A command without a meaning, rejected by name in `exec`. Safe. No arm uses it. -/
  | notModelled (mnemonic : String)
deriving DecidableEq, Repr

/-! ## Reset -/

/-- A host port after device reset with its inputs deasserted (R120, R124, R137; log 7 for the inputs). -/
def HostPort.reset : HostPort :=
  { state := .idle, armed := true, strobeLow := false, resetLow := false, holdLimit := 2000 }

/-- R116. -/
def MemoryPort.reset : MemoryPort :=
  { inFlight := none, lastGranted := .commit, waiting := ⟨none, none⟩, waitingCommit := none, retryLimit := 3 }

/-- R38; no tick has come (log 21). -/
def TimeBase.reset : TimeBase := { setting := 50, underWay := 50, count := 0, ticked := false }

/-- R154. -/
def EventQueue.reset : EventQueue :=
  { records := [], nextSequence := 0, drops := 0, threshold := 16, poisonAlert := true }

/-- R174, R186. -/
def Link.reset : Link :=
  { tag := 0, status := .none, results := [], pendingMark := false, select := .high }

/-- The memory pins with MREQn released (R96; log 18 for MA, MWRn, MLEN, and after the first grant for the others). -/
def MemoryPins.released : MemoryPins :=
  { mreqn := true, ma := none, mwrn := none, mlen := none, mben := 0b1111, md := none }

/-- The idle levels of R117, R96, R168, R165. -/
def Pins.idle : Pins :=
  { portA := { awaitn := true, aerrn := true, ad := none }
    portB := { backn := true, berrn := true, bd := none }
    memory := [MemoryPins.released]
    mdo := none
    alertn := true }

/-- The block right after device reset, RESETn released, with no reset line, strobe or select asserted (log 7). -/
def State.reset : State :=
  { table := Vector.replicate Config.entries .empty
    snaps := ⟨[], []⟩
    recs := ⟨[], []⟩
    queue := []
    claims := Vector.replicate Config.entries none
    ports := ⟨HostPort.reset, HostPort.reset⟩
    mem := MemoryPort.reset
    time := TimeBase.reset
    events := EventQueue.reset
    link := Link.reset
    inReset := false
    pins := Pins.idle
    choices := 0
    pending := [] }

end Sys2Proof.Machine
end

