-- ==== Sys2Proof/Machine/Bits.lean ====
section
/-! DEFINITION. Bytes of words, lane sets, byte order and check bytes (spec 00 Conventions, R167, R188, R189). -/

namespace Sys2Proof.Machine

open Sys2Proof

/-- Byte lane `l` of a word: lane 0 is bits 7 to 0. -/
def byteLane (w : Word) (l : Nat) : Byte := w.extractLsb' (8 * l) 8

/-- A byte placed on lane `l`, the other lanes 0. -/
def onLane (b : Byte) (l : Nat) : Word := b.zeroExtend 32 <<< (8 * l)

/-- The lanes of a lane set, rising. -/
def laneList (lanes : BitVec 4) : List Nat := (List.range 4).filter fun l => lanes.getLsbD l

/-- The lane set holding lane `l` alone. -/
def laneSet (l : Nat) : BitVec 4 := 1#4 <<< l

/-- The bits of the word on the lanes of a set. -/
def laneMask (lanes : BitVec 4) : Word :=
  (laneList lanes).foldl (fun m l => m ||| onLane 0xff l) 0

/-- A number as `n` bytes, lowest byte first (R188). -/
def leBytes : Nat → Nat → List Byte
  | 0, _ => []
  | n + 1, v => BitVec.ofNat 8 v :: leBytes n (v / 256)

/-- The number that bytes hold, lowest byte first (R188). -/
def leValue : List Byte → Nat
  | [] => 0
  | b :: bs => b.toNat + 256 * leValue bs

/-- The sum of bytes mod 256. -/
def sumBytes : List Byte → Byte
  | [] => 0
  | b :: bs => b + sumBytes bs

/-- The check byte that makes a frame sum to 0 mod 256 (R189). -/
def checkByte (body : List Byte) : Byte := 0 - sumBytes body

/-- The whole bytes that sampled bits form, most significant bit first; bits left over are ignored (R167). -/
def packBits : List Bool → List Byte
  | b7 :: b6 :: b5 :: b4 :: b3 :: b2 :: b1 :: b0 :: rest =>
    BitVec.ofNat 8 (128 * b7.toNat + 64 * b6.toNat + 32 * b5.toNat + 16 * b4.toNat + 8 * b3.toNat
      + 4 * b2.toNat + 2 * b1.toNat + b0.toNat) :: packBits rest
  | _ => []

/-- The bits of bytes as shifted, most significant bit first (R167, R168). -/
def unpackBytes : List Byte → List Bool
  | [] => []
  | b :: bs => (List.range 8).map (fun i => b.getLsbD (7 - i)) ++ unpackBytes bs

end Sys2Proof.Machine
end

