-- ==== Sys2Proof/Machine/Table.lean ====
section
/-! DEFINITION. What the object table answers without changing: extents, lookups, load-time checks (R2, R4 to R6,
R10, R17 to R19). -/

namespace Sys2Proof.Machine

open Sys2Proof

/-! ## Contents -/

/-- The number of words of the extent (R5). -/
def Content.extent (c : Content) : Nat := (c.length + 3) / 4

/-- Whether the extent holds a word (R5). -/
def Content.covers (c : Content) (w : Nat) : Bool := c.base ≤ w && w < c.base + c.extent

/-- Whether two extents share a word (R19). -/
def Content.overlaps (c d : Content) : Bool :=
  c.base < d.base + d.extent && d.base < c.base + c.extent

/-- The lead byte of the order (R6). -/
def Content.lead (c : Content) : Option Nat :=
  match c.order with
  | .any => none
  | .leadLow => some 0
  | .leadHigh => some (c.length - 1)

/-- Whether the writers field names the port (R10). -/
def Content.allows (c : Content) (p : Port) : Bool :=
  match c.writers, p with
  | .noWriter, _ => false
  | .a, .a => true
  | .a, .b => false
  | .b, .a => false
  | .b, .b => true
  | .ab, _ => true

/-- R18, on decoded values: every condition but the index's range and the encodings of the image (R193). -/
def Content.legal (c : Content) : Bool :=
  c.base < Config.windowWords
  && (2 ≤ c.length && c.length ≤ 32)
  && c.base + c.extent ≤ Config.windowWords
  && !(c.readPolicy == .through && c.writePolicy == .through)
  && !(c.claim == .exclusive && c.writePolicy == .through)
  && (1 ≤ c.snapshotLimit && c.snapshotLimit ≤ 4095)
  && (1 ≤ c.stagingLimit && c.stagingLimit ≤ 4095)

/-! ## Entries -/

/-- The installed content, when there is one (R1). -/
def Entry.content? : Entry → Option Content
  | .empty => none
  | .active c _ _ => some c
  | .draining c _ _ _ => some c
  | .poisoned c _ _ _ => some c

/-- The version, when there is an installed content (R1). -/
def Entry.version? : Entry → Option (BitVec 16)
  | .empty => none
  | .active _ v _ => some v
  | .draining _ v _ _ => some v
  | .poisoned _ v _ _ => some v

/-- The user count; 0 while EMPTY or POISONED (R12). -/
def Entry.users : Entry → Nat
  | .empty => 0
  | .active _ _ u => u
  | .draining _ _ u _ => u
  | .poisoned _ _ _ _ => 0

/-- The pending replacement, when one is held (R16). -/
def Entry.replacement? : Entry → Option Replacement
  | .empty => none
  | .active _ _ _ => none
  | .draining _ _ _ r => some r
  | .poisoned _ _ r _ => r

/-- The poison cause, when POISONED (R17). -/
def Entry.cause? : Entry → Option PoisonCause
  | .poisoned _ _ _ k => some k
  | _ => none

/-- Whether the entry is POISONED. -/
def Entry.isPoisoned : Entry → Bool
  | .poisoned _ _ _ _ => true
  | _ => false

/-- Whether the entry is DRAINING. -/
def Entry.isDraining : Entry → Bool
  | .draining _ _ _ _ => true
  | _ => false

/-- Whether an optional content's extent holds a word. -/
def coversOpt (c : Option Content) (w : Nat) : Bool :=
  match c with
  | some c => c.covers w
  | none => false

/-- The entry at an index. -/
def State.entry (s : State) (e : EntryIndex) : Entry := s.table[e]

/-- The entry whose installed extent holds a word (R2). -/
def State.lookup (s : State) (w : WordAddr) : Option EntryIndex :=
  (List.finRange Config.entries).find? fun e => coversOpt (s.entry e).content? w.toNat

/-- The count of POISONED entries (R17). -/
def State.poisonedCount (s : State) : Nat :=
  (List.finRange Config.entries).countP fun e => (s.entry e).isPoisoned

/-! ## What an access touches (R2) -/

/-- The extent bytes an access touches, object bytes and padding alike. -/
def Access.touches (a : Access) (c : Content) : List Nat :=
  (laneList a.lanes).map fun l => 4 * (a.word.toNat - c.base) + l

/-- The object bytes an access touches. -/
def Access.objectBytes (a : Access) (c : Content) : List Nat :=
  (a.touches c).filter fun k => k < c.length

/-- Whether an access touches the lead byte; never under ANY. -/
def Access.touchesLead (a : Access) (c : Content) : Bool :=
  match c.lead with
  | some k => (a.objectBytes c).contains k
  | none => false

/-! ## Overlap (R19) -/

/-- The extents an entry reserves against other indices: its installed one and that of a pending full content. -/
def Entry.reserved (x : Entry) : List Content :=
  x.content?.toList ++
    match x.replacement? with
    | some (.content c) => [c]
    | _ => []

/-- R19: the new extent shares a word with what another index reserves. -/
def State.overlapsOther (s : State) (e : EntryIndex) (c : Content) : Bool :=
  (List.finRange Config.entries).any fun f =>
    f != e && (s.entry f).reserved.any fun d => c.overlaps d

end Sys2Proof.Machine
end

