-- ==== Sys2Proof/Machine/Events.lean ====
section
/-! DEFINITION. The event queue (R154 to R162): entering, dropping, copying, removing. -/

namespace Sys2Proof.Machine

open Sys2Proof

/-- The record a report becomes when the queue enters it (R157). -/
def EventQueue.recordOf (q : EventQueue) (r : Report) : EventRecord :=
  { sequence := q.nextSequence
    kind := r.kind
    port := r.port
    entry := r.entry
    address := r.address
    detail := r.detail
    dropped := if q.drops = 0 then none else some q.drops }

/-- An event reaches the queue: it is entered (R157) or dropped (R158). -/
def EventQueue.enter (q : EventQueue) (r : Report) : EventQueue :=
  if q.records.length < Config.queueCapacity then
    { q with records := q.records ++ [q.recordOf r], nextSequence := q.nextSequence + 1, drops := 0 }
  else
    { q with drops := min (q.drops + 1) Config.dropLimit }

/-- PEEK_EVENTS: the oldest min(n, 8, length) records (R160). -/
def EventQueue.oldest (q : EventQueue) (n : Nat) : List EventRecord := q.records.take (min n Config.peekMax)

/-- The records left after the one with sequence `s`, when the list holds one (R161). -/
def afterSequence (s : BitVec 16) : List EventRecord → Option (List EventRecord)
  | [] => none
  | r :: rs => if r.sequence = s then some rs else afterSequence s rs

/-! ## The order in which the reports of one event enter (R159) -/

/-- The first report of each source: those that may be the next to enter. -/
def firstReports : List Source → List Report → List Report
  | _, [] => []
  | seen, r :: rs => if r.source ∈ seen then firstReports seen rs else r :: firstReports (r.source :: seen) rs

/-- Draws one of `n` orders left open by the spec; no draw is made where there is nothing to choose (log 6). -/
def draw (choices n : Nat) : Nat × Nat :=
  if n ≤ 1 then (0, choices) else (Config.freeChoice choices % n, choices + 1)

/-- Enters the reports one by one, each time a free choice among the first report of every source; `fuel` is the
number of reports. Answers the queue and the count of draws. -/
def enterReports : Nat → Nat → List Report → EventQueue → EventQueue × Nat
  | 0, choices, _, q => (q, choices)
  | fuel + 1, choices, rs, q =>
    match (firstReports [] rs)[(draw choices (firstReports [] rs).length).1]? with
    | none => (q, choices)
    | some r =>
      enterReports fuel (draw choices (firstReports [] rs).length).2 (rs.erase r) (q.enter r)

end Sys2Proof.Machine
end

