-- ==== Sys2Proof/Machine/Formats.lean ====
section
/-! DEFINITION. The byte layouts of chapter 10 (R188 to R196): code lists, frames, images. -/

namespace Sys2Proof.Machine

open Sys2Proof

/-! ## Code lists (R190) -/

/-- R190. -/
def Status.number : Status → Nat
  | .none => 0
  | .pending => 1
  | .ok => 2
  | .okDraining => 3
  | .badCommand => 16
  | .badLength => 17
  | .badArg => 18
  | .overlap => 19
  | .noEntry => 20
  | .notPoisoned => 21

/-- R190: 0 none, 1 port A, 2 port B. -/
def portNumber : Option Port → Nat
  | none => 0
  | some .a => 1
  | some .b => 2

/-- R190. -/
def Entry.stateNumber : Entry → Nat
  | .empty => 0
  | .active _ _ _ => 1
  | .draining _ _ _ _ => 2
  | .poisoned _ _ _ _ => 3

/-- R190. -/
def HoldCause.number : HoldCause → Nat
  | .memory => 1
  | .slot => 2
  | .record => 3
  | .claim => 4
  | .drain => 5
  | .ownCommit => 6

/-- R190. -/
def LinkCause.number : LinkCause → Nat
  | .truncated => 1
  | .check => 2
  | .length => 3
  | .busyDiscard => 4

/-- R190. -/
def EventKind.number : EventKind → Nat
  | .snapExpired => 1
  | .stageExpired => 2
  | .stageRestarted => 3
  | .strayRead => 4
  | .strayWrite => 5
  | .writeDenied => 6
  | .poisonRefused => 7
  | .holdExpired => 8
  | .readFailed => 9
  | .writeFailed => 10
  | .commitFailed => 11
  | .commitDiscarded => 12
  | .recovered => 13
  | .portReset => 14
  | .flushed => 15
  | .entryInstalled => 16
  | .linkError => 17

/-- R190. -/
def Order.number : Order → Nat
  | .any => 0
  | .leadLow => 1
  | .leadHigh => 2

/-- R190; 3 names no order (R193). -/
def orderOf : Nat → Option Order
  | 0 => some .any
  | 1 => some .leadLow
  | 2 => some .leadHigh
  | _ => none

/-- R190. -/
def Writers.number : Writers → Nat
  | .noWriter => 0
  | .a => 1
  | .b => 2
  | .ab => 3

/-- R190: every two-bit value names writers. -/
def writersOf : Nat → Writers
  | 0 => .noWriter
  | 1 => .a
  | 2 => .b
  | _ => .ab

/-- The ports a port choice names (R190, R191): 1 port A, 2 port B, 3 both; any other value is refused. -/
def portChoice : Nat → Option (List Port)
  | 1 => some [.a]
  | 2 => some [.b]
  | 3 => some [.a, .b]
  | _ => none

/-! ## Frames (R189) -/

/-- A request frame: code, tag, argument length, arguments, check byte. -/
def requestFrame (code tag : Byte) (args : List Byte) : List Byte :=
  let body := code :: tag :: BitVec.ofNat 8 args.length :: args
  body ++ [checkByte body]

/-- The image of the response slot as it stands (R168): PENDING without results while the mark is set. -/
def Link.image (l : Link) : Image :=
  if l.pendingMark then { tag := l.tag, status := .pending, results := [] }
  else { tag := l.tag, status := l.status, results := l.results }

/-- The bytes of a response image (R189). -/
def Image.bytes (im : Image) : List Byte :=
  let body := im.tag :: BitVec.ofNat 8 im.status.number :: BitVec.ofNat 8 im.results.length :: im.results
  body ++ [checkByte body]

/-- The byte MDO carries in place `k` of a transaction: the image, then FF hex for every further byte (R168). -/
def Image.mdoByte (im : Image) (k : Nat) : Byte := (im.bytes[k]?).getD 0xff

/-! ## The entry image (R192, R193) -/

/-- Byte 4 of an entry image: order and writers. -/
def Content.byteFour (c : Content) : Nat := c.order.number + 4 * c.writers.number

/-- Byte 5 of an entry image: the two policies, the claim and the stray policy. -/
def Content.byteFive (c : Content) : Nat :=
  (if c.readPolicy = .through then 1 else 0) + (if c.writePolicy = .through then 2 else 0)
    + (if c.claim = .exclusive then 4 else 0) + (if c.stray = .fault then 8 else 0)

/-- The entry image of a content (R192). -/
def Content.image (c : Content) : List Byte :=
  leBytes 3 c.base ++ [BitVec.ofNat 8 c.length, BitVec.ofNat 8 c.byteFour, BitVec.ofNat 8 c.byteFive]
    ++ leBytes 2 c.snapshotLimit ++ leBytes 2 c.stagingLimit

/-- The content ten bytes of an entry image name, field by field; none where an encoding names no value (R193).
The ranges of the numbers are checked by `Content.legal` (R18). -/
def contentOf (bs : List Byte) : Option Content :=
  match bs with
  | [b0, b1, b2, len, four, five, n0, n1, g0, g1] =>
    if four.toNat / 16 ≠ 0 ∨ five.toNat / 16 ≠ 0 then none
    else
      match orderOf (four.toNat % 4) with
      | none => none
      | some order =>
        some
          { base := leValue [b0, b1, b2]
            length := len.toNat
            order := order
            readPolicy := if five.getLsbD 0 then .through else .snapshot
            writePolicy := if five.getLsbD 1 then .through else .staged
            claim := if five.getLsbD 2 then .exclusive else .shared
            stray := if five.getLsbD 3 then .fault else .pass
            writers := writersOf (four.toNat / 4)
            snapshotLimit := leValue [n0, n1]
            stagingLimit := leValue [g0, g1] }
  | _ => none

/-! ## The READ_ENTRY result (R194) -/

/-- The presence byte (R194). -/
def Entry.presence (x : Entry) : Nat :=
  (if x.content?.isSome then 1 else 0) + (if x.replacement?.isSome then 2 else 0)
    + (if x.replacement? = some .delete then 4 else 0) + (if x.cause?.isSome then 8 else 0)

/-- The parts of a READ_ENTRY result that are present, in order (R194). -/
def Entry.parts (x : Entry) : List Byte :=
  (match x.content?, x.version? with
    | some c, some v => c.image ++ leBytes 2 v.toNat
    | _, _ => [])
  ++ (match x.replacement? with
    | some (.content c) => c.image
    | _ => [])
  ++ (match x.cause? with
    | some k => [BitVec.ofNat 8 (portNumber (some k.port)), BitVec.ofNat 8 k.attempts]
    | none => [])

/-- The READ_ENTRY result for an index (R194). -/
def readEntryResult (e : EntryIndex) (x : Entry) : List Byte :=
  [BitVec.ofNat 8 e.val, BitVec.ofNat 8 x.stateNumber, BitVec.ofNat 8 x.users, BitVec.ofNat 8 x.presence] ++ x.parts

/-! ## The event record image (R195) -/

/-- Byte 3 of an event record image: the port and the presence bits. -/
def EventRecord.byteThree (r : EventRecord) : Nat :=
  portNumber r.port + (if r.entry.isSome then 4 else 0) + (if r.address.isSome then 8 else 0)
    + (if r.detail.isSome then 16 else 0) + (if r.dropped.isSome then 32 else 0)

/-- The ten bytes of an event record image. -/
def EventRecord.image (r : EventRecord) : List Byte :=
  leBytes 2 r.sequence.toNat
    ++ [BitVec.ofNat 8 r.kind.number, BitVec.ofNat 8 r.byteThree, BitVec.ofNat 8 ((r.entry.map Fin.val).getD 0)]
    ++ leBytes 3 ((r.address.map BitVec.toNat).getD 0)
    ++ [BitVec.ofNat 8 (r.detail.getD 0), BitVec.ofNat 8 (r.dropped.getD 0)]

/-! ## The status image (R177, R196) -/

/-- A port's byte of the status image: 0 when not HELD, otherwise its hold cause (R177). -/
def PortState.holdByte : PortState → Byte
  | .held h => BitVec.ofNat 8 h.cause.number
  | _ => 0

/-- The 16 bytes of the status image (R196). -/
def State.statusImage (s : State) : List Byte :=
  [BitVec.ofNat 8 s.events.records.length, BitVec.ofNat 8 s.events.drops]
    ++ leBytes 2 s.events.nextSequence.toNat
    ++ [BitVec.ofNat 8 s.poisonedCount, BitVec.ofNat 8 s.queue.length,
        s.ports.a.state.holdByte, s.ports.b.state.holdByte, BitVec.ofNat 8 s.time.setting]
    ++ leBytes 2 s.ports.a.holdLimit ++ leBytes 2 s.ports.b.holdLimit
    ++ [BitVec.ofNat 8 s.mem.retryLimit, BitVec.ofNat 8 s.events.threshold,
        if s.events.poisonAlert then 1 else 0]

/-! ## Transfers (R95) -/

/-- Who asks for a transfer (R95, R100). -/
def Purpose.requester : Purpose → Requester
  | .plain p _ _ => .port p
  | .fill p _ _ => .port p
  | .commit _ _ => .commit

/-- Whether a transfer reads. -/
def Transfer.isRead (t : Transfer) : Bool := t.kind == .singleRead || t.kind == .burstRead

end Sys2Proof.Machine
end

