-- ==== Sys2Proof/Machine/Flags.lean ====
section
/-! DEFINITION. The output pins as functions of the rest of the state: ALERTn (R163, R165), the port pins (R117, R121,
R122), the memory pins (R96) and MDO (R168). -/

namespace Sys2Proof.Machine

open Sys2Proof

/-- The condition under which ALERTn is driven low (R163); never while RESETn is asserted (R165). -/
def State.alerting (s : State) : Bool :=
  !s.inReset &&
    (decide (s.events.threshold ≤ s.events.records.length) || (s.events.poisonAlert && decide (1 ≤ s.poisonedCount)))

/-- AWAITn, AERRn and AD7–AD0 in each port state (R117, R121). -/
def portAPins : PortState → PortAPins
  | .idle => { awaitn := true, aerrn := true, ad := none }
  | .held _ => { awaitn := false, aerrn := true, ad := none }
  | .inTransfer _ => { awaitn := false, aerrn := true, ad := none }
  | .answered a ans =>
    { awaitn := true, aerrn := !ans.error, ad := ans.data.map fun w => byteLane w (a.address.toNat % 4) }
  | .inReset => { awaitn := true, aerrn := true, ad := none }

/-- BACKn, BERRn and BD31–BD0 in each port state (R117, R122). -/
def portBPins : PortState → PortBPins
  | .idle => { backn := true, berrn := true, bd := none }
  | .held _ => { backn := true, berrn := true, bd := none }
  | .inTransfer _ => { backn := true, berrn := true, bd := none }
  | .answered _ ans => { backn := false, berrn := !ans.error, bd := ans.data }
  | .inReset => { backn := true, berrn := true, bd := none }

/-- The memory pins while the attempt presents its word at position `k` (R96): the word's own address, and on a write its
data and enables. MWRn and MLEN stand through the attempt (log 18). -/
def InFlight.wordPins (f : InFlight) (k : Nat) : MemoryPins :=
  { mreqn := false
    ma := some (f.transfer.first + BitVec.ofNat 20 k)
    mwrn := some f.transfer.isRead
    mlen := some (BitVec.ofNat 3 (f.transfer.length - 1))
    mben := if f.transfer.isRead then 0b1111 else ~~~ ((f.transfer.writes[k]?.map WriteWord.lanes).getD 0)
    md := if f.transfer.isRead then none else f.transfer.writes[k]?.map WriteWord.data }

/-- What an attempt presents, in order (R96): every word of a write, ascending; of a read the first address. -/
def InFlight.attemptPins (f : InFlight) : List MemoryPins :=
  if f.transfer.isRead then [f.wordPins 0] else (List.range f.transfer.length).map f.wordPins

/-- The levels the memory pins take, in order, since the event that set them (R96): released while no attempt runs; what
the attempt presents while one does, after the release that ended the attempt before it, if any. -/
def memoryPins : Option InFlight → List MemoryPins
  | none => [MemoryPins.released]
  | some f => if 2 ≤ f.attempts then MemoryPins.released :: f.attemptPins else f.attemptPins

/-- MDO: the first bit of the image from the assertion of MSELn; three-state otherwise (R168, R186). -/
def mdoPin : Select → Option Bool
  | .high => none
  | .ignored => none
  | .active im => some ((im.mdoByte 0).getLsbD 7)

/-- Every output pin at the level the state gives it. -/
def State.pinLevels (s : State) : Pins :=
  { portA := portAPins s.ports.a.state
    portB := portBPins s.ports.b.state
    memory := memoryPins s.mem.inFlight
    mdo := mdoPin s.link.select
    alertn := !s.alerting }

/-- What comes next no longer comes together with a tick (log 21). -/
def State.pastTick (s : State) : State := { s with time := { s.time with ticked := false } }

/-- The end of an event: the output pins are driven anew, and a tick before the event is past. -/
def State.drivePins (s : State) : State := { s.pastTick with pins := s.pinLevels }

end Sys2Proof.Machine
end

