-- ==== Sys2Proof/Machine/Ops.lean ====
section
/-! DEFINITION. The named operations every meaning is made of: updates of the state inside one event, reports, notices
that end holds (R35 to R37), users, installs (R15, R22, R144), claims (R86, R87), discards, requests and answers. -/

namespace Sys2Proof.Machine

open Sys2Proof

/-! ## Updates -/

/-- Puts an entry in the table. -/
def Work.setEntry (w : Work) (e : EntryIndex) (x : Entry) : Work :=
  { w with s := { w.s with table := w.s.table.set e x } }

/-- Sets the claim holder of an entry. -/
def Work.setClaim (w : Work) (e : EntryIndex) (h : Option Port) : Work :=
  { w with s := { w.s with claims := w.s.claims.set e h } }

/-- Replaces a port's snapshots. -/
def Work.setSnaps (w : Work) (p : Port) (l : List Snapshot) : Work :=
  { w with s := { w.s with snaps := w.s.snaps.set p l } }

/-- Replaces a port's OPEN records. -/
def Work.setRecs (w : Work) (p : Port) (l : List OpenRecord) : Work :=
  { w with s := { w.s with recs := w.s.recs.set p l } }

/-- Replaces the commit queue. -/
def Work.setQueue (w : Work) (l : List CommitRecord) : Work :=
  { w with s := { w.s with queue := l } }

/-- Replaces a host port. -/
def Work.setPort (w : Work) (p : Port) (x : HostPort) : Work :=
  { w with s := { w.s with ports := w.s.ports.set p x } }

/-- Puts a port in a state (R117). -/
def Work.setPortState (w : Work) (p : Port) (x : PortState) : Work :=
  w.setPort p { w.s.ports.get p with state := x }

/-- Replaces the memory port. -/
def Work.setMem (w : Work) (m : MemoryPort) : Work :=
  { w with s := { w.s with mem := m } }

/-- Replaces a port side's waiting request (R100). -/
def Work.setWaiting (w : Work) (p : Port) (t : Option Transfer) : Work :=
  w.setMem { w.s.mem with waiting := w.s.mem.waiting.set p t }

/-- Replaces the commit engine's waiting request (R100). -/
def Work.setWaitingCommit (w : Work) (t : Option Transfer) : Work :=
  w.setMem { w.s.mem with waitingCommit := t }

/-- Replaces the transfer in flight. -/
def Work.setInFlight (w : Work) (f : Option InFlight) : Work :=
  w.setMem { w.s.mem with inFlight := f }

/-- Replaces the time base. -/
def Work.setTime (w : Work) (t : TimeBase) : Work :=
  { w with s := { w.s with time := t } }

/-- Replaces the event queue and its settings. -/
def Work.setEvents (w : Work) (q : EventQueue) : Work :=
  { w with s := { w.s with events := q } }

/-- Replaces the link. -/
def Work.setLink (w : Work) (l : Link) : Work :=
  { w with s := { w.s with link := l } }

/-- Reports an event to the queue; it enters at the end of the event in progress (R157, R159). -/
def Work.report (w : Work) (r : Report) : Work := { w with reports := w.reports ++ [r] }

/-- Marks a port's held access to be classified again, or clears the mark. -/
def Work.setAgain (w : Work) (p : Port) (b : Bool) : Work := { w with again := w.again.set p b }

/-- An event begins. -/
def State.begin (s : State) : Work := { s := s, reports := [], again := ⟨false, false⟩ }

/-! ## Notices: events that end the cause of a held access (R35) or concern its word (R37) -/

/-- Marks the port's access if it is HELD and the notice concerns it. -/
def Work.notify (w : Work) (p : Port) (concerns : Held → Bool) : Work :=
  match (w.s.ports.get p).state with
  | .held h => if concerns h then w.setAgain p true else w
  | _ => w

/-- Notice to both ports. -/
def Work.notifyBoth (w : Work) (concerns : Held → Bool) : Work :=
  (w.notify .a concerns).notify .b concerns

/-- A snapshot slot of the port became FREE (R46). -/
def Work.noticeSlot (w : Work) (p : Port) : Work := w.notify p fun h => h.cause == .slot

/-- A staging record of the port became FREE (R73). -/
def Work.noticeRecord (w : Work) (p : Port) : Work := w.notify p fun h => h.cause == .record

/-- The claim of an entry was released (R88). -/
def Work.noticeClaim (w : Work) (e : EntryIndex) : Work :=
  w.notifyBoth fun h => h.cause == .claim && h.entry == some e

/-- A QUEUED or COMMITTING record of the port on the entry ended; the hold ends with the last of them (R90). -/
def Work.noticeOwnCommit (w : Work) (p : Port) (e : EntryIndex) : Work :=
  if w.s.queue.any fun r => r.port == p && r.entry == e then w
  else w.notify p fun h => h.cause == .ownCommit && h.entry == some e

/-- A table event of the entry: an install, a removal, a poisoning or a clear, with the content before and the
content after (R35 cause DRAIN, R37, R145). -/
def Work.noticeTable (w : Work) (e : EntryIndex) (before after : Option Content) : Work :=
  w.notifyBoth fun h =>
    (h.cause == .drain && h.entry == some e)
      || coversOpt before h.access.word.toNat || coversOpt after h.access.word.toNat

/-! ## Users and installs -/

/-- Puts a new entry in place of the old one, with claim holder none, and gives both ports notice
(R20, R21, R86, R139, R144, R145). -/
def Work.reseat (w : Work) (e : EntryIndex) (x : Entry) : Work :=
  ((w.setEntry e x).setClaim e none).noticeTable e (w.s.entry e).content? x.content?

/-- The entry a replacement becomes when it installs (R22). -/
def Replacement.installed : Replacement → Entry
  | .content c => .active c 0 0
  | .delete => .empty

/-- 1 when a content installed, 0 when the entry became EMPTY (R144). -/
def Replacement.detail : Replacement → Nat
  | .content _ => 1
  | .delete => 0

/-- The install of a pending replacement, recorded as ENTRY_INSTALLED (R22, R144). -/
def Work.installReplacement (w : Work) (e : EntryIndex) (r : Replacement) : Work :=
  (w.reseat e r.installed).report
    { source := .table e, kind := .entryInstalled, port := none, entry := some e, address := none,
      detail := some r.detail }

/-- A user of the entry is reported: the count rises by 1; only an ACTIVE entry admits one (R14). -/
def Work.join (w : Work) (e : EntryIndex) : Work :=
  match w.s.entry e with
  | .active c v u => w.setEntry e (.active c v (u + 1))
  | _ => w

/-- A user of the entry has left (R15): the count falls by 1, and the leaving that takes a DRAINING entry to 0 users
installs the pending replacement (R22). -/
def Work.leave (w : Work) (e : EntryIndex) : Work :=
  match w.s.entry e with
  | .active c v u => w.setEntry e (.active c v (u - 1))
  | .draining c v u r => if u ≤ 1 then w.installReplacement e r else w.setEntry e (.draining c v (u - 1) r)
  | _ => w

/-- The version rises by 1, mod 65,536 (R13). -/
def Work.raiseVersion (w : Work) (e : EntryIndex) : Work :=
  match w.s.entry e with
  | .active c v u => w.setEntry e (.active c (v + 1) u)
  | .draining c v u r => w.setEntry e (.draining c (v + 1) u r)
  | _ => w

/-! ## Claims -/

/-- Whether the port holds a staging record on the entry, OPEN, QUEUED or COMMITTING. -/
def State.holdsRecord (s : State) (p : Port) (e : EntryIndex) : Bool :=
  ((s.recs.get p).any fun r => r.entry == e) || s.queue.any fun r => r.port == p && r.entry == e

/-- The claim is released when the holder has no record left on the entry (R87). -/
def Work.releaseClaim (w : Work) (p : Port) (e : EntryIndex) : Work :=
  if w.s.claims[e] = some p ∧ w.s.holdsRecord p e = false then (w.setClaim e none).noticeClaim e else w

/-! ## Discards -/

/-- Removes the port's waiting request if it is the fill of a snapshot on the entry (R103). -/
def Work.withdrawFill (w : Work) (p : Port) (e : EntryIndex) : Work :=
  match w.s.mem.waiting.get p with
  | some t =>
    match t.purpose with
    | .fill _ _ f => if f = e then w.setWaiting p none else w
    | _ => w
  | none => w

/-- The port's snapshot on the entry. -/
def State.snapshotOn (s : State) (p : Port) (e : EntryIndex) : Option Snapshot :=
  (s.snaps.get p).find? fun x => x.entry == e

/-- The port's OPEN record on the entry. -/
def State.recordOn (s : State) (p : Port) (e : EntryIndex) : Option OpenRecord :=
  (s.recs.get p).find? fun r => r.entry == e

/-- The port's snapshot on the entry leaves, for any cause: the slot becomes FREE, a fill not yet granted loses its
request, and the leaving is reported to the table (R54, R59, R61, R68). Nothing happens where there is none. -/
def Work.dropSnapshot (w : Work) (p : Port) (e : EntryIndex) : Work :=
  match w.s.snapshotOn p e with
  | none => w
  | some _ =>
    (((w.setSnaps p ((w.s.snaps.get p).eraseP fun x => x.entry == e)).withdrawFill p e).noticeSlot p).leave e

/-- The port's OPEN record on the entry leaves without a commit: memory is untouched, the record becomes FREE, the
claim may be released, and the leaving is reported (R74, R84, R87, R91). -/
def Work.dropRecord (w : Work) (p : Port) (e : EntryIndex) : Work :=
  match w.s.recordOn p e with
  | none => w
  | some _ =>
    (((w.setRecs p ((w.s.recs.get p).eraseP fun r => r.entry == e)).noticeRecord p).releaseClaim p e).leave e

/-- A port side's waiting request is withdrawn; the FILLING slot of a fill is freed with it (R50, R103, R125). -/
def Work.withdraw (w : Work) (p : Port) : Work :=
  match w.s.mem.waiting.get p with
  | none => w
  | some t =>
    match t.purpose with
    | .fill _ _ e => (w.setWaiting p none).dropSnapshot p e
    | _ => w.setWaiting p none

/-! ## Holds, answers and requests -/

/-- Holds the access with a cause; its hold limit runs on (R35, R124). -/
def Work.hold (w : Work) (p : Port) (h : Held) (cause : HoldCause) (entry : Option EntryIndex) : Work :=
  w.setPortState p (.held { h with cause := cause, entry := entry })

/-- A plain answer. -/
def okAnswer (a : Access) (data : Word) : Answer :=
  { error := false, data := if a.direction = .write then none else some data }

/-- An error answer: FF hex or FFFFFFFF hex for anything but a write (R118, R121, R122). -/
def errorAnswer (a : Access) : Answer :=
  { error := true, data := if a.direction = .write then none else some 0xffffffff }

/-- The state an answer leaves: ANSWERED, or IDLE where the released flag is set (R128). -/
def answeredState (a : Access) (released : Bool) (ans : Answer) : PortState :=
  if released then .idle else .answered a ans

/-- Answers the access. -/
def Work.reply (w : Work) (p : Port) (h : Held) (ans : Answer) : Work :=
  w.setPortState p (answeredState h.access h.released ans)

/-- The single-word transfer of an access on the plain path (R34, R95). -/
def plainTransfer (p : Port) (a : Access) (entry : Option EntryIndex) : Transfer :=
  { kind := if a.direction = .write then .singleWrite else .singleRead
    first := a.word
    length := 1
    writes := if a.direction = .write then [{ data := a.data, lanes := a.lanes }] else []
    purpose := .plain p a.address entry }

/-- Sends the access on the plain path: its transfer is requested and it waits with cause MEMORY (R34). -/
def Work.plain (w : Work) (p : Port) (h : Held) (entry : Option EntryIndex) : Work :=
  (w.setWaiting p (some (plainTransfer p h.access entry))).hold p h .memory entry

/-- The word of a commit burst at position `k`: the record's data and the lanes of its mask (R81). On lanes outside the mask,
whose enables are deasserted, the spec gives MD no value; the model puts 0 there (DESIGN CHOICE, log 26). -/
def commitWord (bytes : List (Option Byte)) (k : Nat) : WriteWord :=
  (List.range 4).foldl
    (fun x l =>
      match (bytes[4 * k + l]?).join with
      | some b => { data := x.data ||| onLane b l, lanes := x.lanes ||| laneSet l }
      | none => x)
    { data := 0, lanes := 0 }

/-- The burst write of a completed record (R81). -/
def commitTransfer (r : CommitRecord) (c : Content) : Transfer :=
  { kind := .burstWrite
    first := BitVec.ofNat 20 c.base
    length := c.extent
    writes := (List.range c.extent).map (commitWord r.bytes)
    purpose := .commit r.port r.entry }

/-- The idle commit engine takes the head of the queue and asks for its burst (R80). -/
def Work.takeHead (w : Work) : Work :=
  match w.s.queue with
  | [] => w
  | r :: _ =>
    match (w.s.entry r.entry).content? with
    | some c => w.setWaitingCommit (some (commitTransfer r c))
    | none => w

/-- The number of extent bytes in a record's written mask. -/
def maskCount (bytes : List (Option Byte)) : Nat := bytes.countP Option.isSome

/-! ## The end of an event -/

/-- Enters the event's reports (R157, R158, R159) and drives the pins anew. R159 lets a record of another event, come together
with a commit failure, fall between COMMIT_FAILED and its COMMIT_DISCARDED records; the model enters all reports of one
command before any of the next, so that such a record falls before or after them (DESIGN CHOICE, log 32). -/
def Work.close (w : Work) : State :=
  let q := enterReports w.reports.length w.s.choices w.reports w.s.events
  State.drivePins { w.s with events := q.1, choices := q.2 }

end Sys2Proof.Machine
end

