-- ==== Sys2Proof/Machine/Snapshot.lean ====
section
/-! DEFINITION. The snapshot unit's handling of a read (R43 to R58). -/

namespace Sys2Proof.Machine

open Sys2Proof

/-- A set of object bytes with more bytes put in, in rising order (R51, R52). -/
def cover (coverage more : List Nat) : List Nat :=
  (List.range 32).filter fun k => coverage.contains k || more.contains k

/-- Whether a coverage holds every object byte (R54). -/
def Content.covered (c : Content) (coverage : List Nat) : Bool :=
  (List.range c.length).all fun k => coverage.contains k

/-- The burst read of the whole extent (R47). -/
def fillTransfer (p : Port) (a : Access) (e : EntryIndex) (c : Content) : Transfer :=
  { kind := .burstRead, first := BitVec.ofNat 20 c.base, length := c.extent, writes := [],
    purpose := .fill p a.address e }

/-- The data word of a snapshot at the accessed word (R53). -/
def snapshotWord (data : List Word) (c : Content) (a : Access) : Word := (data[a.word.toNat - c.base]?).getD 0

/-- Takes a slot, FILLING, reports the opening, asks for the fill and waits with cause MEMORY (R44). -/
def Work.openSnapshot (w : Work) (p : Port) (h : Held) (e : EntryIndex) (c : Content) : Work :=
  ((((w.setSnaps p (w.s.snaps.get p ++ [{ entry := e, state := .filling }])).join e).setWaiting p
    (some (fillTransfer p h.access e c))).hold p h .memory (some e))

/-- An opener (R44, R45): held with cause DRAIN on a DRAINING entry (R31), with cause SLOT where no slot is FREE. -/
def Work.snapshotOpener (w : Work) (p : Port) (h : Held) (e : EntryIndex) (c : Content) (draining : Bool) : Work :=
  if draining then w.hold p h .drain (some e)
  else if Config.slotsPerPort ≤ (w.s.snaps.get p).length then w.hold p h .slot (some e)
  else w.openSnapshot p h e c

/-- A restart (R55). On a DRAINING entry the read is held with cause DRAIN before the leaving is reported, so that an
install the leaving causes classifies it again (R146). -/
def Work.snapshotRestart (w : Work) (p : Port) (h : Held) (e : EntryIndex) (c : Content) (draining : Bool) : Work :=
  if draining then (w.hold p h .drain (some e)).dropSnapshot p e
  else (w.dropSnapshot p e).openSnapshot p h e c

/-- The port's snapshot on the entry with its coverage changed. -/
def withCoverage (e : EntryIndex) (coverage : List Nat) (x : Snapshot) : Snapshot :=
  if x.entry = e then
    match x.state with
    | .opened data _ timer => { x with state := .opened data coverage timer }
    | .filling => x
  else x

/-- Serves a read from an OPEN snapshot (R51, R52): it is answered from the data first, and then the snapshot
completes if its coverage holds every object byte (R54). -/
def Work.snapshotServe (w : Work) (p : Port) (h : Held) (e : EntryIndex) (c : Content) (data : List Word)
    (coverage : List Nat) : Work :=
  let grown := cover coverage (h.access.objectBytes c)
  let answered := w.reply p h (okAnswer h.access (snapshotWord data c h.access))
  if c.covered grown then answered.dropSnapshot p e
  else answered.setSnaps p ((w.s.snaps.get p).map (withCoverage e grown))

/-- A stray read (R56): STRAY_READ is recorded, and the read goes plain under PASS (R57) or is refused under FAULT
(R58). -/
def Work.strayRead (w : Work) (p : Port) (h : Held) (e : EntryIndex) (c : Content) : Work :=
  let noted := w.report
    { source := .snapshotUnit, kind := .strayRead, port := some p, entry := some e,
      address := some h.access.address, detail := none }
  match c.stray with
  | .pass => noted.plain p h (some e)
  | .fault => noted.reply p h (errorAnswer h.access)

/-- The outcome of a read handed to the snapshot unit (R43). A FILLING snapshot of the port on the entry cannot be
met here (R43); the model restarts it (log 24). -/
def Work.snapshotRead (w : Work) (p : Port) (h : Held) (e : EntryIndex) (c : Content) (draining : Bool) : Work :=
  match (w.s.snapshotOn p e).map Snapshot.state with
  | none =>
    if c.order = .any || h.access.touchesLead c then w.snapshotOpener p h e c draining
    else w.strayRead p h e c
  | some .filling => w.snapshotRestart p h e c draining
  | some (.opened data coverage _) =>
    let restarts :=
      if c.order = .any then (h.access.objectBytes c).any fun k => coverage.contains k
      else h.access.touchesLead c
    if restarts then w.snapshotRestart p h e c draining
    else w.snapshotServe p h e c data coverage

end Sys2Proof.Machine
end

