-- ==== Sys2Proof/Machine/Staging.lean ====
section
/-! DEFINITION. The staging unit's handling of a write (R70 to R78). -/

namespace Sys2Proof.Machine

open Sys2Proof

/-- The records of the port in use: OPEN, QUEUED and COMMITTING (R69). -/
def State.recordsInUse (s : State) (p : Port) : Nat :=
  (s.recs.get p).length + s.queue.countP fun r => r.port == p

/-- A record's data with the bytes of a write entered, each on its lane's extent byte (R71). -/
def enterBytes (bytes : List (Option Byte)) (c : Content) (a : Access) : List (Option Byte) :=
  (laneList a.lanes).foldl
    (fun bs l => bs.set (4 * (a.word.toNat - c.base) + l) (some (byteLane a.data l))) bytes

/-- Whether the written mask holds every object byte (R78). -/
def Content.written (c : Content) (bytes : List (Option Byte)) : Bool :=
  (List.range c.length).all fun k => (bytes[k]?).join.isSome

/-- The port's OPEN record on the entry with its data changed. -/
def withBytes (e : EntryIndex) (bytes : List (Option Byte)) (r : OpenRecord) : OpenRecord :=
  if r.entry = e then { r with bytes := bytes } else r

/-- A completed record joins the tail of the commit queue; an idle engine takes it at once (R78 to R80). -/
def Work.enqueue (w : Work) (r : CommitRecord) : Work :=
  let joined := w.setQueue (w.s.queue ++ [r])
  if w.s.queue.isEmpty then joined.takeHead else joined

/-- Enters a write into the port's OPEN record on the entry, completes the record if its mask is full, and answers
OK (R71, R78). -/
def Work.enterWrite (w : Work) (p : Port) (h : Held) (e : EntryIndex) (c : Content) (bytes : List (Option Byte)) : Work :=
  let entered := enterBytes bytes c h.access
  let answered := w.reply p h (okAnswer h.access 0)
  if c.written entered then
    (answered.setRecs p ((w.s.recs.get p).eraseP fun r => r.entry == e)).enqueue
      { port := p, entry := e, bytes := entered }
  else answered.setRecs p ((w.s.recs.get p).map (withBytes e entered))

/-- A record with nothing written yet and its timer started (R72). -/
def freshRecord (e : EntryIndex) (c : Content) : OpenRecord :=
  { entry := e, bytes := List.replicate (4 * c.extent) none, timer := { limit := c.stagingLimit, counted := 0 } }

/-- Opens a record on the entry: the opening is reported, and an EXCLUSIVE entry's claim is taken (R72). -/
def Work.openRecord (w : Work) (p : Port) (e : EntryIndex) (c : Content) : Work :=
  let opened := (w.setRecs p (w.s.recs.get p ++ [freshRecord e c])).join e
  if c.claim = .exclusive then opened.setClaim e (some p) else opened

/-- Opens a record and enters the write. -/
def Work.openAndEnter (w : Work) (p : Port) (h : Held) (e : EntryIndex) (c : Content) : Work :=
  (w.openRecord p e c).enterWrite p h e c (freshRecord e c).bytes

/-- An opener (R72): held with cause DRAIN on a DRAINING entry (R31), then with cause CLAIM (R88), then with cause
RECORD (R73). -/
def Work.recordOpener (w : Work) (p : Port) (h : Held) (e : EntryIndex) (c : Content) (draining : Bool) : Work :=
  if draining then w.hold p h .drain (some e)
  else if c.claim = .exclusive ∧ w.s.claims[e] = some p.other then w.hold p h .claim (some e)
  else if Config.recordsPerPort ≤ w.s.recordsInUse p then w.hold p h .record (some e)
  else w.openAndEnter p h e c

/-- A lead-byte restart (R74). On an ACTIVE entry the record opens again at once and the claim stays with the port; on
a DRAINING entry the write is held with cause DRAIN before the leaving is reported (R146). -/
def Work.recordRestart (w : Work) (p : Port) (h : Held) (e : EntryIndex) (c : Content) (draining : Bool)
    (bytes : List (Option Byte)) : Work :=
  let noted := w.report
    { source := .stagingUnit, kind := .stageRestarted, port := some p, entry := some e,
      address := some h.access.address, detail := some (maskCount bytes) }
  if draining then (noted.hold p h .drain (some e)).dropRecord p e
  else
    ((noted.setRecs p ((w.s.recs.get p).eraseP fun r => r.entry == e)).leave e).openAndEnter p h e c

/-- A stray write (R75): STRAY_WRITE is recorded, and the write goes plain under PASS (R76) or is refused under FAULT
(R77). -/
def Work.strayWrite (w : Work) (p : Port) (h : Held) (e : EntryIndex) (c : Content) : Work :=
  let noted := w.report
    { source := .stagingUnit, kind := .strayWrite, port := some p, entry := some e,
      address := some h.access.address, detail := none }
  match c.stray with
  | .pass => noted.plain p h (some e)
  | .fault => noted.reply p h (errorAnswer h.access)

/-- The outcome of a write handed to the staging unit (R70). -/
def Work.stagingWrite (w : Work) (p : Port) (h : Held) (e : EntryIndex) (c : Content) (draining : Bool) : Work :=
  match (w.s.recordOn p e).map OpenRecord.bytes with
  | none =>
    if c.order = .any || h.access.touchesLead c then w.recordOpener p h e c draining
    else w.strayWrite p h e c
  | some bytes =>
    if h.access.touchesLead c then w.recordRestart p h e c draining bytes
    else w.enterWrite p h e c bytes

end Sys2Proof.Machine
end

