-- ==== Sys2Proof/Machine/Classify.lean ====
section
/-! DEFINITION. Classification (R26 to R37), and the end of an event: held accesses classified again, reports entered,
pins driven. -/

namespace Sys2Proof.Machine

open Sys2Proof

/-- Step 3 (R29): the access is refused with POISON_REFUSED. -/
def Work.refusePoisoned (w : Work) (p : Port) (h : Held) (e : EntryIndex) : Work :=
  (w.report
    { source := .port p, kind := .poisonRefused, port := some p, entry := some e,
      address := some h.access.address, detail := none }).reply p h (errorAnswer h.access)

/-- The writers check's refusal (R33). -/
def Work.denyWrite (w : Work) (p : Port) (h : Held) (e : EntryIndex) : Work :=
  (w.report
    { source := .port p, kind := .writeDenied, port := some p, entry := some e,
      address := some h.access.address, detail := none }).reply p h (errorAnswer h.access)

/-- A write whose own-snapshot discard installed a replacement is classified again (R61, R146): it is held as a
DRAIN hold that the install has ended. -/
def Work.holdEnded (w : Work) (p : Port) (h : Held) (e : EntryIndex) : Work :=
  (w.hold p h .drain (some e)).setAgain p true

/-- Whether the port holds a QUEUED or COMMITTING record on the entry (R32). -/
def State.ownsCommit (s : State) (p : Port) (e : EntryIndex) : Bool :=
  s.queue.any fun r => r.port == p && r.entry == e

/-- Steps 4 to 7 on an entry that is ACTIVE or DRAINING with content `c` (R30 to R33). -/
def Work.classifyOn (w : Work) (p : Port) (h : Held) (e : EntryIndex) (c : Content) (draining : Bool) : Work :=
  let paddingOnly := (h.access.objectBytes c).isEmpty
  if h.access.direction = .write then
    let dropped := w.dropSnapshot p e
    let installed := draining && !(dropped.s.entry e).isDraining
    if paddingOnly then
      if installed then dropped.holdEnded p h e else dropped.plain p h (some e)
    else if !c.allows p then dropped.denyWrite p h e
    else if installed then dropped.holdEnded p h e
    else
      match c.writePolicy with
      | .staged => dropped.stagingWrite p h e c draining
      | .through => dropped.plain p h (some e)
  else if paddingOnly then w.plain p h (some e)
  else if w.s.ownsCommit p e then w.hold p h .ownCommit (some e)
  else
    match c.readPolicy with
    | .snapshot => w.snapshotRead p h e c draining
    | .through => w.plain p h (some e)

/-- Classification from step 2 on (R26, R28, R29). -/
def Work.classify (w : Work) (p : Port) (h : Held) : Work :=
  match w.s.lookup h.access.word with
  | none => w.plain p h none
  | some e =>
    match w.s.entry e with
    | .empty => w.plain p h none
    | .poisoned _ _ _ _ => w.refusePoisoned p h e
    | .active c _ _ => w.classifyOn p h e c false
    | .draining c _ _ _ => w.classifyOn p h e c true

/-- Classifies a port's held access again (R36, R37): its waiting request is dropped with its old classification
(R103). -/
def Work.reclassify (w : Work) (p : Port) : Work :=
  match (w.s.ports.get p).state with
  | .held h => (((w.setAgain p false).setPortState p .idle).withdraw p).classify p h
  | _ => w.setAgain p false

/-- Classifies again every access whose hold the event has ended, one port at a time. Where both ports have one, which
goes first is a free choice (R36, R145; log 6). -/
def settle : Nat → Work → Work
  | 0, w => w
  | fuel + 1, w =>
    match w.again.a, w.again.b with
    | false, false => w
    | true, false => settle fuel (w.reclassify .a)
    | false, true => settle fuel (w.reclassify .b)
    | true, true =>
      if (draw w.s.choices 2).1 = 0 then
        settle fuel (Work.reclassify { w with s := { w.s with choices := (draw w.s.choices 2).2 } } .a)
      else
        settle fuel (Work.reclassify { w with s := { w.s with choices := (draw w.s.choices 2).2 } } .b)

/-- The end of an event: the classifications again it calls for, the reports, the pins. -/
def Work.finish (w : Work) : State := (settle Config.settleFuel w).close

end Sys2Proof.Machine
end

