-- ==== Sys2Proof/Machine/Operands.lean ====
section
/-! DEFINITION. The operand forms: what a port captures at an arrival (R26, R118, R119), and the arguments of link
commands (R191). -/

namespace Sys2Proof.Machine

open Sys2Proof

/-! ## Arrivals -/

/-- The direction the strobes of port A give (R118). -/
def directionOf : Strobes → Direction
  | .read => .read
  | .write => .write
  | .both => .neither

/-- What port A captures (R118): the word of the byte address, its one lane, and for a write the byte on that lane. -/
def captureA (strobes : Strobes) (addr : ByteAddr) (data : Byte) (limit : Nat) : Access :=
  { word := BitVec.ofNat 20 (addr.toNat / 4)
    lanes := laneSet (addr.toNat % 4)
    direction := directionOf strobes
    address := addr
    data := if directionOf strobes = .write then onLane data (addr.toNat % 4) else 0
    limit := limit }

/-- The lowest enabled lane; 0 where none is (R119). -/
def lowestLane (lanes : BitVec 4) : Nat := (laneList lanes).headD 0

/-- What port B captures (R119). Lanes that are not enabled carry nothing into the access. -/
def captureB (word : WordAddr) (isWrite : Bool) (enabled : BitVec 4) (data : Word) (limit : Nat) : Access :=
  { word := word
    lanes := enabled
    direction := if isWrite then .write else .read
    address := BitVec.ofNat 22 (4 * word.toNat + lowestLane enabled)
    data := if isWrite then data &&& laneMask enabled else 0
    limit := limit }

/-- Whether the released strobe is the one the access uses, and whether both are deasserted at this sampling
(R120, R128). Port A's access of no direction is released when both strobes are (R118). -/
def strobeReleased (d : Direction) : StrobeSample → Bool
  | .portA readLow writeLow =>
    match d with
    | .read => !readLow
    | .write => !writeLow
    | .neither => !readLow && !writeLow
  | .portB => true

/-- The port whose strobes are sampled. -/
def sampledPort : StrobeSample → Port
  | .portA _ _ => .a
  | .portB => .b

/-- Whether some strobe of the port is still asserted at this sampling. -/
def stillLow : StrobeSample → Bool
  | .portA readLow writeLow => readLow || writeLow
  | .portB => false

/-! ## Arguments (R191) -/

/-- The argument byte at an offset. -/
def argByte (args : List Byte) (k : Nat) : Nat := ((args[k]?).getD 0).toNat

/-- The two argument bytes from an offset, lowest byte first. -/
def argPair (args : List Byte) (k : Nat) : Nat := leValue [(args[k]?).getD 0, (args[k + 1]?).getD 0]

/-- An index argument: refused with BAD_ARG when above 63 (R18). -/
def indexOf (n : Nat) : Option EntryIndex := if h : n < Config.entries then some ⟨n, h⟩ else none

end Sys2Proof.Machine
end

