-- ==== Sys2Proof/Machine/HostPorts.lean ====
section
/-! DEFINITION. The host ports' own events: the meanings of PORT_A_ARRIVAL, PORT_B_ARRIVAL and STROBE_RELEASE
(R117 to R122, R128). -/

namespace Sys2Proof.Machine

open Sys2Proof

/-- Whether the port takes an arrival now (R118 to R120, R137): it is IDLE and armed, and RESETn is released. -/
def State.takesArrival (s : State) (p : Port) : Bool :=
  !s.inReset && (s.ports.get p).state == .idle && (s.ports.get p).armed

/-- The strobe is sampled asserted. -/
def Work.strobeAsserted (w : Work) (p : Port) : Work := w.setPort p { w.s.ports.get p with strobeLow := true }

/-- The port takes an arrival: the strobe is asserted, and the port is no longer armed (R120). -/
def Work.arrive (w : Work) (p : Port) : Work :=
  w.setPort p { w.s.ports.get p with strobeLow := true, armed := false }

/-- An access at its arrival, with its hold limit timer started (R124). -/
def arrival (a : Access) : Held :=
  { access := a, cause := .memory, entry := none, timer := { limit := a.limit, counted := 0 }, released := false }

/-- PORT_A_ARRIVAL (R118). A strobe sampled with ACSn high, or while the port does not take an arrival, is no arrival
(R118, R120; log 9). -/
def execPortAArrival (selected : Bool) (strobes : Strobes) (addr : ByteAddr) (data : Byte) (s : State) :
    Host.Outcome State Fault Refusal :=
  let a := captureA strobes addr data s.ports.a.holdLimit
  if selected && s.takesArrival .a then
    match strobes with
    | .both => .next ((s.begin.arrive .a).reply .a (arrival a) (errorAnswer a)).finish
    | .read => .next ((s.begin.arrive .a).classify .a (arrival a)).finish
    | .write => .next ((s.begin.arrive .a).classify .a (arrival a)).finish
  else .next (s.begin.strobeAsserted .a).finish

/-- PORT_B_ARRIVAL (R119). An access with no enabled lane is answered at once (R27). -/
def execPortBArrival (word : WordAddr) (isWrite : Bool) (enabled : BitVec 4) (data : Word) (s : State) :
    Host.Outcome State Fault Refusal :=
  let a := captureB word isWrite enabled data s.ports.b.holdLimit
  if s.takesArrival .b then
    if enabled = 0 then .next ((s.begin.arrive .b).reply .b (arrival a) (okAnswer a 0)).finish
    else .next ((s.begin.arrive .b).classify .b (arrival a)).finish
  else .next (s.begin.strobeAsserted .b).finish

/-- What the release of its strobe makes of an access: from ANSWERED the cycle ends (R121, R122); while HELD or
IN_TRANSFER the released flag is set (R128). -/
def PortState.afterRelease (sample : StrobeSample) : PortState → PortState
  | .held h => .held { h with released := h.released || strobeReleased h.access.direction sample }
  | .inTransfer r => .inTransfer { r with released := r.released || strobeReleased r.access.direction sample }
  | .answered a ans => if strobeReleased a.direction sample then .idle else .answered a ans
  | x => x

/-- A port after a sampling of its strobes: while it is in reset, or RESETn is asserted, only the level is noted
(R120). -/
def HostPort.sampled (x : HostPort) (sample : StrobeSample) (inReset : Bool) : HostPort :=
  if inReset || x.state == .inReset then { x with strobeLow := stillLow sample }
  else
    { x with
      state := x.state.afterRelease sample
      armed := x.armed || !stillLow sample
      strobeLow := stillLow sample }

/-- STROBE_RELEASE (R128, R120 to R122). -/
def execStrobeRelease (sample : StrobeSample) (s : State) : Host.Outcome State Fault Refusal :=
  .next (s.begin.setPort (sampledPort sample) ((s.ports.get (sampledPort sample)).sampled sample s.inReset)).finish

end Sys2Proof.Machine
end

