-- ==== Sys2Proof/Decode.lean ====
section
/-! DEFINITION. Decoding. No row of spec/opcode_table.json gives bits, so no table word spells a command (log 30);
what the part itself decodes is the code byte of a request frame (R190). -/

namespace Sys2Proof

/-- The command a word spells by the bits of spec/opcode_table.json: none, since no row gives bits. -/
def decodeTableWord (_nbits _w : Nat) : Option Instr := none

/-- The command a code byte names (R190). Code 0 is NOP, which is not taken (R171), and is not listed here. -/
def commandOfCode (code : Byte) : Option Command :=
  match code.toNat with
  | 1 => some .readStatus
  | 16 => some .setTimebase
  | 17 => some .setHold
  | 18 => some .setRetry
  | 19 => some .setAlert
  | 32 => some .writeEntry
  | 33 => some .deleteEntry
  | 34 => some .readEntry
  | 35 => some .clearPoison
  | 48 => some .peekEvents
  | 49 => some .ackEvents
  | 64 => some .flush
  | _ => none

/-- The code byte of a command (R190). -/
def codeOfCommand : Command → Byte
  | .readStatus => 1
  | .setTimebase => 16
  | .setHold => 17
  | .setRetry => 18
  | .setAlert => 19
  | .writeEntry => 32
  | .deleteEntry => 33
  | .readEntry => 34
  | .clearPoison => 35
  | .peekEvents => 48
  | .ackEvents => 49
  | .flush => 64

/-- The argument length each command takes (R191). -/
def argLength : Command → Nat
  | .readStatus => 0
  | .setTimebase => 1
  | .setHold => 3
  | .setRetry => 1
  | .setAlert => 2
  | .writeEntry => 11
  | .deleteEntry => 1
  | .readEntry => 1
  | .clearPoison => 1
  | .peekEvents => 1
  | .ackEvents => 2
  | .flush => 1

end Sys2Proof
end

