-- ==== Sys2Proof/Machine/Resets.lean ====
section
/-! DEFINITION. Device reset, port reset and what FLUSH shares with it (R3, R63 to R67, R91 to R93, R116, R130 to R137,
R153, R154, R165, R186). -/

namespace Sys2Proof.Machine

open Sys2Proof

/-! ## Device reset -/

/-- A host port at device reset: the levels of its inputs stay as they are (R137). -/
def HostPort.deviceReset (x : HostPort) : HostPort :=
  { HostPort.reset with
    state := if x.resetLow then .inReset else .idle
    armed := !x.strobeLow
    strobeLow := x.strobeLow
    resetLow := x.resetLow }

/-- A select period under way at device reset is ignored to its end (R186). -/
def Select.deviceReset : Select → Select
  | .high => .high
  | _ => .ignored

/-- The state while RESETn is asserted: every reset value, with the levels of the input pins, the queue of commands and
the count of draws kept. -/
def State.deviceReset (s : State) : State :=
  State.drivePins
    { State.reset with
      ports := ⟨s.ports.a.deviceReset, s.ports.b.deviceReset⟩
      link := { Link.reset with select := s.link.select.deviceReset }
      inReset := true
      choices := s.choices
      pending := s.pending }

/-- DEVICE_RESET (R3, R67, R93, R116, R137, R153, R154, R186). -/
def execDeviceReset (s : State) : Host.Outcome State Fault Refusal := .next s.deviceReset

/-- A host port when RESETn is released (R137): IDLE or IN_RESET by its line; it takes its first arrival once its strobe
has been sampled deasserted, which holds at once where the strobe is deasserted (log 8). -/
def HostPort.deviceRelease (x : HostPort) : HostPort :=
  { x with state := if x.resetLow then .inReset else .idle, armed := !x.strobeLow }

/-- DEVICE_RESET_RELEASE (R137, R165, R186). Without RESETn asserted there is nothing to release (log 10). -/
def execDeviceResetRelease (s : State) : Host.Outcome State Fault Refusal :=
  if s.inReset then
    .next
      (State.drivePins
        { s with ports := ⟨s.ports.a.deviceRelease, s.ports.b.deviceRelease⟩, inReset := false })
  else .next s.pastTick

/-! ## Discards of a port's snapshots and OPEN records (R63, R91, R131) -/

/-- Discards every snapshot of the port (R63). -/
def Work.dropSnapshots (w : Work) (p : Port) : Work :=
  ((w.s.snaps.get p).map Snapshot.entry).foldl (fun w e => w.dropSnapshot p e) w

/-- Discards every OPEN record of the port; claims the port no longer backs are released (R91). -/
def Work.dropRecords (w : Work) (p : Port) : Work :=
  ((w.s.recs.get p).map OpenRecord.entry).foldl (fun w e => w.dropRecord p e) w

/-- The count of snapshots and OPEN records a port reset or a FLUSH discards (R132, R135). -/
def State.discardCount (s : State) (p : Port) : Nat := (s.snaps.get p).length + (s.recs.get p).length

/-- Discards the port's snapshots and OPEN records, and records the event with their count (R131, R132, R135). -/
def Work.discardAll (w : Work) (p : Port) (kind : EventKind) : Work :=
  ((w.report
    { source := .port p, kind := kind, port := some p, entry := none, address := none,
      detail := some (w.s.discardCount p) }).dropSnapshots p).dropRecords p

/-! ## Port reset -/

/-- Whether a transfer in flight was asked for by the port's side. -/
def InFlight.ofPort (f : InFlight) (p : Port) : Bool := f.transfer.purpose.requester == .port p

/-- The transfer in flight runs on, but its outcome answers nothing (R123, R130). -/
def Work.orphanTransfer (w : Work) (p : Port) : Work :=
  match w.s.mem.inFlight with
  | some f => if f.ofPort p then w.setInFlight (some { f with orphan := true }) else w
  | none => w

/-- A host port at the assertion of its reset line (R130). -/
def HostPort.portReset (x : HostPort) : HostPort := { x with state := .inReset, armed := false, resetLow := true }

/-- PORT_RESET (R130 to R132). While RESETn is asserted only the line is noted, and nothing is recorded (R132); a line
already asserted is not asserted again (log 10). -/
def execPortReset (p : Port) (s : State) : Host.Outcome State Fault Refusal :=
  if (s.ports.get p).resetLow then .next s.pastTick
  else if s.inReset then .next (s.begin.setPort p (s.ports.get p).portReset).close
  else
    .next
      ((((s.begin.setPort p (s.ports.get p).portReset).orphanTransfer p).setWaiting p none).discardAll p
        .portReset).finish

/-- A host port at the release of its reset line (R133). -/
def HostPort.portRelease (x : HostPort) : HostPort :=
  { x with state := .idle, armed := !x.strobeLow, resetLow := false }

/-- PORT_RESET_RELEASE (R133). A line that is not asserted is not released (log 10). -/
def execPortResetRelease (p : Port) (s : State) : Host.Outcome State Fault Refusal :=
  if (s.ports.get p).resetLow then .next (s.begin.setPort p (s.ports.get p).portRelease).close else .next s.pastTick

/-! ## FLUSH at the ports (R135, R136, R184) -/

/-- What a FLUSH makes of a port's access in progress (R135): a HELD access is answered with error at once, one
IN_TRANSFER at its transfer's end. -/
def PortState.flushed : PortState → PortState
  | .held h => answeredState h.access h.released (errorAnswer h.access)
  | .inTransfer r => .inTransfer { r with flushed := true }
  | x => x

/-- Ends the port's access in progress and withdraws its request (R115, R135). -/
def Work.flushAccess (w : Work) (p : Port) : Work :=
  (w.setPortState p (w.s.ports.get p).state.flushed).setWaiting p none

/-- FLUSH of the named ports in one event (R184): every access is ended before anything is discarded, so that none is
classified again by what the discards free. -/
def Work.flushPorts (w : Work) (ps : List Port) : Work :=
  ps.foldl (fun w p => w.discardAll p .flushed) (ps.foldl Work.flushAccess w)

end Sys2Proof.Machine
end

