-- ==== Sys2Proof/Machine/TableEdits.lean ====
section
/-! DEFINITION. What WRITE_ENTRY, DELETE_ENTRY and CLEAR_POISON do to the table at their taking (R18 to R24, R139, R140,
R142, R151). Each answers the status with the state it leaves. -/

namespace Sys2Proof.Machine

open Sys2Proof

/-- An accepted WRITE_ENTRY (R20). -/
def Work.writeContent (w : Work) (e : EntryIndex) (c : Content) : Work × Status :=
  match w.s.entry e with
  | .empty => (w.reseat e (.active c 0 0), .ok)
  | .active old v u =>
    if u = 0 then (w.reseat e (.active c 0 0), .ok)
    else (w.setEntry e (.draining old v u (.content c)), .okDraining)
  | .draining old v u _ => (w.setEntry e (.draining old v u (.content c)), .okDraining)
  | .poisoned _ _ _ _ => (w.reseat e (.active c 0 0), .ok)

/-- WRITE_ENTRY for an index and a content (R18, R19, R20). -/
def Work.editEntry (w : Work) (e : EntryIndex) (c : Content) : Work × Status :=
  if c.legal then
    if w.s.overlapsOther e c then (w, .overlap) else w.writeContent e c
  else (w, .badArg)

/-- DELETE_ENTRY (R21). -/
def Work.deleteContent (w : Work) (e : EntryIndex) : Work × Status :=
  match w.s.entry e with
  | .empty => (w, .noEntry)
  | .active c v u =>
    if u = 0 then (w.reseat e .empty, .ok) else (w.setEntry e (.draining c v u .delete), .okDraining)
  | .draining c v u _ => (w.setEntry e (.draining c v u .delete), .okDraining)
  | .poisoned _ _ _ _ => (w.reseat e .empty, .ok)

/-- CLEAR_POISON (R24). -/
def Work.clearPoison (w : Work) (e : EntryIndex) : Work × Status :=
  match w.s.entry e with
  | .empty => (w, .noEntry)
  | .active _ _ _ => (w, .notPoisoned)
  | .draining _ _ _ _ => (w, .notPoisoned)
  | .poisoned c v none _ => (w.reseat e (.active c v 0), .ok)
  | .poisoned _ _ (some r) _ => (w.installReplacement e r, .ok)

end Sys2Proof.Machine
end

