-- ==== Sys2Proof/Machine/LinkCommands.lean ====
section
/-! DEFINITION. The management link: transactions, the judging and taking of frames, the response slot, and the meanings of
its rows (R167 to R187). -/

namespace Sys2Proof.Machine

open Sys2Proof

/-! ## The commands at their taking (section 9.4): the state they leave, the status, the results -/

/-- What the taking of a request leaves: the event in progress, the status, the results. -/
abbrev Taken := Work × Status × List Byte

/-- A taking without results. -/
def noResults (x : Work × Status) : Taken := (x.1, x.2, [])

/-- READ_STATUS (R177). -/
def Work.takeReadStatus (w : Work) : Taken := (w, .ok, w.s.statusImage)

/-- A new time-base setting (R39). The period under way keeps its own; one whose tick comes together with the taking begins
under the new one, as where the taking comes first (R185; log 21). -/
def TimeBase.set (t : TimeBase) (n : Nat) : TimeBase :=
  { t with setting := n, underWay := if t.ticked then n else t.underWay }

/-- SET_TIMEBASE (R39, R178). -/
def Work.takeSetTimebase (w : Work) (args : List Byte) : Taken :=
  let n := argByte args 0
  if 10 ≤ n ∧ n ≤ 200 then (w.setTime (w.s.time.set n), .ok, []) else (w, .badArg, [])

/-- Sets the hold limit setting of a port (R127). -/
def Work.setHoldLimit (w : Work) (limit : Nat) (p : Port) : Work :=
  w.setPort p { w.s.ports.get p with holdLimit := limit }

/-- SET_HOLD (R127, R178). -/
def Work.takeSetHold (w : Work) (args : List Byte) : Taken :=
  match portChoice (argByte args 0) with
  | none => (w, .badArg, [])
  | some ps =>
    if 1 ≤ argPair args 1 then (ps.foldl (Work.setHoldLimit · (argPair args 1) ·) w, .ok, []) else (w, .badArg, [])

/-- SET_RETRY (R110, R178). -/
def Work.takeSetRetry (w : Work) (args : List Byte) : Taken :=
  let n := argByte args 0
  if n ≤ 7 then (w.setMem { w.s.mem with retryLimit := n }, .ok, []) else (w, .badArg, [])

/-- SET_ALERT (R164, R178). -/
def Work.takeSetAlert (w : Work) (args : List Byte) : Taken :=
  let n := argByte args 0
  let b := argByte args 1
  if (1 ≤ n ∧ n ≤ 32) ∧ b ≤ 1 then
    (w.setEvents { w.s.events with threshold := n, poisonAlert := b == 1 }, .ok, [])
  else (w, .badArg, [])

/-- WRITE_ENTRY (R179, R18, R193). -/
def Work.takeWriteEntry (w : Work) (args : List Byte) : Taken :=
  match indexOf (argByte args 0), contentOf (args.drop 1) with
  | some e, some c => noResults (w.editEntry e c)
  | _, _ => (w, .badArg, [])

/-- DELETE_ENTRY (R180). -/
def Work.takeDeleteEntry (w : Work) (args : List Byte) : Taken :=
  match indexOf (argByte args 0) with
  | some e => noResults (w.deleteContent e)
  | none => (w, .badArg, [])

/-- READ_ENTRY (R25, R181). -/
def Work.takeReadEntry (w : Work) (args : List Byte) : Taken :=
  match indexOf (argByte args 0) with
  | some e => (w, .ok, readEntryResult e (w.s.entry e))
  | none => (w, .badArg, [])

/-- CLEAR_POISON (R180). -/
def Work.takeClearPoison (w : Work) (args : List Byte) : Taken :=
  match indexOf (argByte args 0) with
  | some e => noResults (w.clearPoison e)
  | none => (w, .badArg, [])

/-- PEEK_EVENTS (R160, R182). -/
def Work.takePeekEvents (w : Work) (args : List Byte) : Taken :=
  (w, .ok, ((w.s.events.oldest (argByte args 0)).map EventRecord.image).flatten)

/-- ACK_EVENTS (R161, R182). -/
def Work.takeAckEvents (w : Work) (args : List Byte) : Taken :=
  match afterSequence (BitVec.ofNat 16 (argPair args 0)) w.s.events.records with
  | some rest => (w.setEvents { w.s.events with records := rest }, .ok, [])
  | none => (w, .badArg, [])

/-- FLUSH (R183). -/
def Work.takeFlush (w : Work) (args : List Byte) : Taken :=
  match portChoice (argByte args 0) with
  | some ps => (w.flushPorts ps, .ok, [])
  | none => (w, .badArg, [])

/-- The command's own action (R173, orders 3 and 4). -/
def Work.takeCommand (w : Work) (args : List Byte) : Command → Taken
  | .readStatus => w.takeReadStatus
  | .setTimebase => w.takeSetTimebase args
  | .setHold => w.takeSetHold args
  | .setRetry => w.takeSetRetry args
  | .setAlert => w.takeSetAlert args
  | .writeEntry => w.takeWriteEntry args
  | .deleteEntry => w.takeDeleteEntry args
  | .readEntry => w.takeReadEntry args
  | .clearPoison => w.takeClearPoison args
  | .peekEvents => w.takePeekEvents args
  | .ackEvents => w.takeAckEvents args
  | .flush => w.takeFlush args

/-- The status a request is decided with, in the order of R173. -/
def Work.decideRequest (w : Work) (code : Byte) (args : List Byte) : Taken :=
  match commandOfCode code with
  | none => (w, .badCommand, [])
  | some cmd => if args.length = argLength cmd then w.takeCommand args cmd else (w, .badLength, [])

/-! ## The judging of a frame (R169) -/

/-- What the release of MSELn decides. -/
inductive Verdict where
  | discarded (cause : LinkCause)
  | nop
  | taken (code tag : Byte) (args : List Byte)
deriving DecidableEq, Repr

/-- The checks of R169 on the whole bytes shifted in; `busy`: the image shifted out was PENDING. -/
def judge (bytes : List Byte) (busy : Bool) : Verdict :=
  match bytes with
  | code :: tag :: len :: rest =>
    if Config.maxArgs < len.toNat then .discarded .length
    else if rest.length < len.toNat + 1 then .discarded .truncated
    else if sumBytes (code :: tag :: len :: rest.take (len.toNat + 1)) ≠ 0 then .discarded .check
    else if code = 0 then .nop
    else if busy then .discarded .busyDiscard
    else .taken code tag (rest.take len.toNat)
  | _ => .discarded .truncated

/-- The taking of a request (R173): the command acts, and the slot takes the tag, the status and the results behind the
PENDING mark. -/
def Work.takeRequest (w : Work) (code tag : Byte) (args : List Byte) : Work :=
  let t := w.decideRequest code args
  t.1.setLink { t.1.s.link with tag := tag, status := t.2.1, results := t.2.2, pendingMark := true }

/-- LINK_ERROR for a discarded frame (R170). -/
def Work.discardFrame (w : Work) (cause : LinkCause) : Work :=
  w.report
    { source := .link, kind := .linkError, port := none, entry := none, address := none, detail := some cause.number }

/-- What follows the verdict (R170, R171, R173). -/
def Work.carryOut (w : Work) : Verdict → Work
  | .discarded cause => w.discardFrame cause
  | .nop => w
  | .taken code tag args => w.takeRequest code tag args

/-- MSELn is released: no transaction is in progress. -/
def Work.deselect (w : Work) : Work := w.setLink { w.s.link with select := .high }

/-- Whether the image shifted out in the transaction was PENDING (R172). Where MSELn's assertion was not itself a
command, the image is the one the slot gives now (log 11). -/
def Link.imagePending (l : Link) : Bool :=
  match l.select with
  | .active im => im.status == .pending
  | _ => l.pendingMark

/-- The release of MSELn after `bytes` were shifted in (R169). During a device reset, and in a select period that began
before its release, nothing is taken and nothing is recorded (R186). -/
def State.releaseSelect (s : State) (bytes : List Byte) : State :=
  if s.inReset || s.link.select == .ignored then s.begin.deselect.close
  else (s.begin.deselect.carryOut (judge bytes s.link.imagePending)).finish

/-! ## Meanings -/

/-- MSELN_ASSERT (R168, R186): the image is fixed. MSELn already low is not asserted again (log 10). -/
def execMselnAssert (s : State) : Host.Outcome State Fault Refusal :=
  match s.link.select with
  | .high =>
    .next
      (s.begin.setLink
        { s.link with select := if s.inReset then .ignored else .active s.link.image }).close
  | _ => .next s.pastTick

/-- NOP (R171). -/
def execNop (tag : Byte) (args : List Byte) (s : State) : Host.Outcome State Fault Refusal :=
  .next (s.releaseSelect (requestFrame 0 tag args))

/-- READ_STATUS (R177). -/
def execReadStatus (tag : Byte) (args : List Byte) (s : State) : Host.Outcome State Fault Refusal :=
  .next (s.releaseSelect (requestFrame (codeOfCommand .readStatus) tag args))

/-- SET_TIMEBASE (R39). -/
def execSetTimebase (tag : Byte) (args : List Byte) (s : State) : Host.Outcome State Fault Refusal :=
  .next (s.releaseSelect (requestFrame (codeOfCommand .setTimebase) tag args))

/-- SET_HOLD (R127). -/
def execSetHold (tag : Byte) (args : List Byte) (s : State) : Host.Outcome State Fault Refusal :=
  .next (s.releaseSelect (requestFrame (codeOfCommand .setHold) tag args))

/-- SET_RETRY (R110). -/
def execSetRetry (tag : Byte) (args : List Byte) (s : State) : Host.Outcome State Fault Refusal :=
  .next (s.releaseSelect (requestFrame (codeOfCommand .setRetry) tag args))

/-- SET_ALERT (R164). -/
def execSetAlert (tag : Byte) (args : List Byte) (s : State) : Host.Outcome State Fault Refusal :=
  .next (s.releaseSelect (requestFrame (codeOfCommand .setAlert) tag args))

/-- WRITE_ENTRY (R20). -/
def execWriteEntry (tag : Byte) (args : List Byte) (s : State) : Host.Outcome State Fault Refusal :=
  .next (s.releaseSelect (requestFrame (codeOfCommand .writeEntry) tag args))

/-- DELETE_ENTRY (R21). -/
def execDeleteEntry (tag : Byte) (args : List Byte) (s : State) : Host.Outcome State Fault Refusal :=
  .next (s.releaseSelect (requestFrame (codeOfCommand .deleteEntry) tag args))

/-- READ_ENTRY (R181). -/
def execReadEntry (tag : Byte) (args : List Byte) (s : State) : Host.Outcome State Fault Refusal :=
  .next (s.releaseSelect (requestFrame (codeOfCommand .readEntry) tag args))

/-- CLEAR_POISON (R24). -/
def execClearPoison (tag : Byte) (args : List Byte) (s : State) : Host.Outcome State Fault Refusal :=
  .next (s.releaseSelect (requestFrame (codeOfCommand .clearPoison) tag args))

/-- PEEK_EVENTS (R160). -/
def execPeekEvents (tag : Byte) (args : List Byte) (s : State) : Host.Outcome State Fault Refusal :=
  .next (s.releaseSelect (requestFrame (codeOfCommand .peekEvents) tag args))

/-- ACK_EVENTS (R161). -/
def execAckEvents (tag : Byte) (args : List Byte) (s : State) : Host.Outcome State Fault Refusal :=
  .next (s.releaseSelect (requestFrame (codeOfCommand .ackEvents) tag args))

/-- FLUSH (R183). -/
def execFlush (tag : Byte) (args : List Byte) (s : State) : Host.Outcome State Fault Refusal :=
  .next (s.releaseSelect (requestFrame (codeOfCommand .flush) tag args))

/-- UNKNOWN_COMMAND (R173). -/
def execUnknownCommand (code tag : Byte) (args : List Byte) (s : State) : Host.Outcome State Fault Refusal :=
  .next (s.releaseSelect (requestFrame code tag args))

/-- REQUEST_COMPLETION (R174): nothing but the mark changes. -/
def execRequestCompletion (s : State) : Host.Outcome State Fault Refusal :=
  .next (s.begin.setLink { s.link with pendingMark := false }).close

/-- DISCARDED_FRAME (R167, R169, R170): the bits decide (log 12). A transaction without an edge of MCK is empty: no
request is taken for it and nothing is recorded. -/
def execDiscardedFrame (mdi : List Bool) (s : State) : Host.Outcome State Fault Refusal :=
  if mdi.isEmpty then .next s.begin.deselect.close else .next (s.releaseSelect (packBits mdi))

end Sys2Proof.Machine
end

