-- ==== Sys2Proof/Machine/Transfers.lean ====
section
/-! DEFINITION. The memory port at work: grants (R101, R102, R106), attempts (R96, R97, R107, R108), ends of transfers and
what the requesters draw from them (R48, R49, R81, R82, R104, R109, R111 to R113, R123). -/

namespace Sys2Proof.Machine

open Sys2Proof

/-! ## The arbiter -/

/-- The cycle after the last granted requester (R101). -/
def Requester.cycleAfter : Requester → List Requester
  | .port .a => [.port .b, .commit, .port .a]
  | .port .b => [.commit, .port .a, .port .b]
  | .commit => [.port .a, .port .b, .commit]

/-- The waiting request of a requester (R100). -/
def MemoryPort.request (m : MemoryPort) : Requester → Option Transfer
  | .port p => m.waiting.get p
  | .commit => m.waitingCommit

/-- The waiting requests with one requester's removed. -/
def MemoryPort.clear (m : MemoryPort) : Requester → MemoryPort
  | .port p => { m with waiting := m.waiting.set p none }
  | .commit => { m with waitingCommit := none }

/-- The request the arbiter would grant: the first waiting requester in the cycle (R101). -/
def MemoryPort.next (m : MemoryPort) : Option (Requester × Transfer) :=
  m.lastGranted.cycleAfter.findSome? fun r => (m.request r).map fun t => (r, t)

/-- A transfer at its grant: its allowance is taken and its first attempt starts (R96, R99, R106). -/
def Transfer.granted (t : Transfer) (retryLimit : Nat) : InFlight :=
  { transfer := t, allowance := 1 + retryLimit, attempts := 1, taken := [],
    timer := { limit := Config.answerLimit, counted := 0 }, orphan := false }

/-- The notice a grant gives the port side: its HELD access is IN_TRANSFER, and its hold limit stops (R102, R117). -/
def PortState.afterGrant : PortState → PortState
  | .held h => .inTransfer { access := h.access, released := h.released, flushed := false }
  | x => x

/-- Grants the memory port when it is idle and a request waits (R101). -/
def Work.grantNext (w : Work) : Work :=
  match w.s.mem.inFlight, w.s.mem.next with
  | none, some (r, t) =>
    let granted := w.setMem
      { w.s.mem.clear r with inFlight := some (t.granted w.s.mem.retryLimit), lastGranted := r }
    match r with
    | .port p => granted.setPortState p (w.s.ports.get p).state.afterGrant
    | .commit => granted
  | _, _ => w

/-! ## Ends of transfers -/

/-- The port a transfer is reported under (R109). -/
def Purpose.port : Purpose → Port
  | .plain p _ _ => p
  | .fill p _ _ => p
  | .commit p _ => p

/-- The object index a transfer is reported with (R109). -/
def Purpose.entry? : Purpose → Option EntryIndex
  | .plain _ _ e => e
  | .fill _ _ e => some e
  | .commit _ e => some e

/-- The address a transfer is reported with (R109). -/
def Purpose.address? : Purpose → Option ByteAddr
  | .plain _ a _ => some a
  | .fill _ a _ => some a
  | .commit _ _ => none

/-- RECOVERED, for a transfer that succeeds after at least one failed attempt (R109). -/
def Work.reportRecovered (w : Work) (f : InFlight) : Work :=
  if 2 ≤ f.attempts then
    w.report
      { source := .memoryPort, kind := .recovered, port := some f.transfer.purpose.port,
        entry := f.transfer.purpose.entry?, address := f.transfer.purpose.address?, detail := some f.attempts }
  else w

/-- The port's access IN_TRANSFER, when the transfer is still its own (R123). -/
def State.runningOf (s : State) (p : Port) (f : InFlight) : Option Running :=
  if f.orphan then none
  else
    match (s.ports.get p).state with
    | .inTransfer r => some r
    | _ => none

/-- Answers the access IN_TRANSFER; a flushed one is answered with error whatever the outcome (R123, R135). -/
def Work.replyTransfer (w : Work) (p : Port) (r : Running) (ans : Answer) : Work :=
  w.setPortState p (answeredState r.access r.released (if r.flushed then errorAnswer r.access else ans))

/-- The end of a plain transfer that succeeded with word `data` (0 for a write) (R34, R112, R123). -/
def Work.plainDone (w : Work) (p : Port) (f : InFlight) (data : Word) : Work :=
  match w.s.runningOf p f with
  | none => w
  | some r => w.replyTransfer p r (okAnswer r.access data)

/-- The end of a plain transfer whose last attempt failed (R34, R112). -/
def Work.plainFailed (w : Work) (p : Port) (f : InFlight) : Work :=
  let noted := w.report
    { source := .port p, kind := if f.transfer.isRead then .readFailed else .writeFailed, port := some p,
      entry := f.transfer.purpose.entry?, address := f.transfer.purpose.address?, detail := some f.attempts }
  match w.s.runningOf p f with
  | none => noted
  | some r => noted.replyTransfer p r (errorAnswer r.access)

/-- A snapshot whose fill has brought its data: OPEN, with its limit timer started (R48). -/
def withFill (e : EntryIndex) (data : List Word) (coverage : List Nat) (limit : Nat) (x : Snapshot) : Snapshot :=
  if x.entry = e then
    { x with state := .opened data coverage { limit := limit, counted := 0 } }
  else x

/-- The end of a fill that succeeded with the words `data` (R48). The words of a fill whose snapshot a port reset or a
FLUSH has discarded are dropped (R63, R64). -/
def Work.fillDone (w : Work) (p : Port) (e : EntryIndex) (f : InFlight) (data : List Word) : Work :=
  match w.s.runningOf p f with
  | none => w
  | some r =>
    match w.s.snapshotOn p e, (w.s.entry e).content? with
    | some _, some c =>
      if r.flushed then w.replyTransfer p r (errorAnswer r.access)
      else
        let answered := w.replyTransfer p r (okAnswer r.access (snapshotWord data c r.access))
        let coverage := cover [] (r.access.objectBytes c)
        if c.covered coverage then answered.dropSnapshot p e
        else answered.setSnaps p ((w.s.snaps.get p).map (withFill e data coverage c.snapshotLimit))
    | _, _ => w.replyTransfer p r (errorAnswer r.access)

/-- The end of a fill whose last attempt failed (R49, R111). -/
def Work.fillFailed (w : Work) (p : Port) (address : ByteAddr) (e : EntryIndex) (f : InFlight) : Work :=
  let noted := w.report
    { source := .snapshotUnit, kind := .readFailed, port := some p, entry := some e, address := some address,
      detail := some f.attempts }
  match w.s.runningOf p f with
  | none => noted
  | some r =>
    let answered := noted.replyTransfer p r (errorAnswer r.access)
    if r.flushed then answered else answered.dropSnapshot p e

/-- A commit has succeeded (R81): the record at the head is freed, the version rises and the user leaves in one
report, the claim may be released, and the engine takes the next head. -/
def Work.commitDone (w : Work) : Work :=
  match w.s.queue with
  | [] => w
  | r :: rest =>
    (((((w.setQueue rest).takeHead.noticeRecord r.port).noticeOwnCommit r.port r.entry).releaseClaim
      r.port r.entry).raiseVersion r.entry).leave r.entry

/-- The POISONED entry a commit failure leaves; a pending replacement is kept (R23). -/
def Entry.poisonedBy (x : Entry) (k : PoisonCause) : Entry :=
  match x with
  | .active c v _ => .poisoned c v none k
  | .draining c v _ r => .poisoned c v (some r) k
  | x => x

/-- A poisoning discards the port's snapshot on the entry and withdraws its fill (R66). The leaving finds the entry
POISONED, which has no count (R150). -/
def Work.poisonSnapshots (w : Work) (p : Port) (e : EntryIndex) : Work :=
  if (w.s.snaps.get p).any fun x => x.entry == e then
    ((w.setSnaps p ((w.s.snaps.get p).filter fun x => x.entry != e)).withdrawFill p e).noticeSlot p
  else w

/-- A poisoning discards the port's OPEN record on the entry (R82). -/
def Work.poisonRecords (w : Work) (p : Port) (e : EntryIndex) : Work :=
  if (w.s.recs.get p).any fun r => r.entry == e then
    (w.setRecs p ((w.s.recs.get p).filter fun r => r.entry != e)).noticeRecord p
  else w

/-- COMMIT_DISCARDED for a QUEUED record, whose port has a record freed (R82). -/
def Work.discardCommit (w : Work) (r : CommitRecord) : Work :=
  (w.report
    { source := .stagingUnit, kind := .commitDiscarded, port := some r.port, entry := some r.entry, address := none,
      detail := some (maskCount r.bytes) }).noticeRecord r.port

/-- A commit's last attempt has failed (R23, R82, R113): COMMIT_FAILED, the poisoning, and every discard on the entry,
in one event. -/
def Work.commitFailed (w : Work) (attempts : Nat) : Work :=
  match w.s.queue with
  | [] => w
  | r :: rest =>
    let e := r.entry
    let x := w.s.entry e
    let noted := w.report
      { source := .stagingUnit, kind := .commitFailed, port := some r.port, entry := some e, address := none,
        detail := some attempts }
    let poisoned := (noted.setEntry e (x.poisonedBy { port := r.port, attempts := attempts })).noticeRecord r.port
    let discarded := (rest.filter fun q => q.entry == e).foldl Work.discardCommit
      (poisoned.setQueue (rest.filter fun q => q.entry != e))
    let emptied := ((((discarded.poisonSnapshots .a e).poisonSnapshots .b e).poisonRecords .a e).poisonRecords .b e)
    (((emptied.setClaim e none).noticeClaim e).noticeTable e x.content? x.content?).takeHead

/-! ## Attempts -/

/-- The transfer in flight ends with success; `words` are those read, none for a write (R104). -/
def Work.transferDone (w : Work) (f : InFlight) (words : List Word) : Work :=
  let ended := (w.setInFlight none).reportRecovered f
  match f.transfer.purpose with
  | .plain p _ _ => ended.plainDone p f (words.headD 0)
  | .fill p _ e => ended.fillDone p e f words
  | .commit _ _ => ended.commitDone

/-- The transfer in flight ends with the failure of its last attempt (R104). -/
def Work.transferFailed (w : Work) (f : InFlight) : Work :=
  let ended := w.setInFlight none
  match f.transfer.purpose with
  | .plain p _ _ => ended.plainFailed p f
  | .fill p a e => ended.fillFailed p a e f
  | .commit _ _ => ended.commitFailed f.attempts

/-- The next attempt of a transfer: everything again, from the first word (R107, R108). -/
def InFlight.retry (f : InFlight) : InFlight :=
  { f with attempts := f.attempts + 1, taken := [], timer := { limit := Config.answerLimit, counted := 0 } }

/-- An attempt has failed: the next starts at once, or the transfer ends as a failure (R106). -/
def Work.attemptFailed (w : Work) (f : InFlight) : Work :=
  if f.attempts < f.allowance then w.setInFlight (some f.retry) else w.transferFailed f

/-- The status of a read word (R97). -/
def readStatusOf (mst : BitVec 2) : ReadStatus :=
  match mst.toNat with
  | 0 => .good
  | 1 => .fixed
  | _ => .bad

/-- Whether a write answer is DONE (R97, R98). -/
def writeDone (mst : BitVec 2) : Bool := mst.toNat ≤ 1

/-- One read word of the attempt in flight (R97). -/
def Work.takeWord (w : Work) (f : InFlight) (data : Word) (mst : BitVec 2) : Work :=
  match readStatusOf mst with
  | .bad => w.attemptFailed f
  | st =>
    let taken := f.taken ++ [(data, st)]
    if f.transfer.length ≤ taken.length then w.transferDone f (taken.map Prod.fst)
    else w.setInFlight (some { f with taken := taken })

/-- The answer of the write attempt in flight (R98). -/
def Work.takeAnswer (w : Work) (f : InFlight) (mst : BitVec 2) : Work :=
  if writeDone mst then w.transferDone f [] else w.attemptFailed f

end Sys2Proof.Machine
end

