-- ==== Sys2Proof/Machine/MemoryCommands.lean ====
section
/-! DEFINITION. The meanings of GRANT, MEMORY_READ_WORD and MEMORY_WRITE_ANSWER. -/

namespace Sys2Proof.Machine

open Sys2Proof

/-- GRANT (R101). Where the arbiter is not idle or nothing waits there is no grant. -/
def execGrant (s : State) : Host.Outcome State Fault Refusal := .next s.begin.grantNext.finish

/-- The attempt a memory strobe meets: the one in flight, if MREQn stands asserted. A strobe sampled with MREQn released
is ignored (R96), as is an answer that comes together with an expiry taken first (R99; log 31). -/
def State.attemptMet (s : State) (x : MemoryStrobe) : Option InFlight := if x.requested then s.mem.inFlight else none

/-- MEMORY_READ_WORD (R97). A strobe that meets no read attempt is ignored (R96; log 10). -/
def execMemoryReadWord (data : Word) (x : MemoryStrobe) (s : State) : Host.Outcome State Fault Refusal :=
  match s.attemptMet x with
  | some f => if f.transfer.isRead then .next (s.begin.takeWord f data x.mst).finish else .next s.pastTick
  | none => .next s.pastTick

/-- MEMORY_WRITE_ANSWER (R98). A strobe that meets no write attempt is ignored (R96; log 10). -/
def execMemoryWriteAnswer (x : MemoryStrobe) (s : State) : Host.Outcome State Fault Refusal :=
  match s.attemptMet x with
  | some f => if f.transfer.isRead then .next s.pastTick else .next (s.begin.takeAnswer f x.mst).finish
  | none => .next s.pastTick

end Sys2Proof.Machine
end

