-- ==== Sys2Proof/Machine/Timers.lean ====
section
/-! DEFINITION. Ticks and limit expiries: the meanings of TICK and of the four expiry commands (R38 to R41, R50, R59,
R84, R99, R125). -/

namespace Sys2Proof.Machine

open Sys2Proof

/-! ## Timers -/

/-- A timer counts a tick (R40). -/
def Timer.tick (t : Timer) : Timer := { t with counted := t.counted + 1 }

/-- A timer expires at the tick that takes its count to its limit (R40). -/
def Timer.due (t : Timer) : Bool := t.limit ≤ t.counted

/-- Whether an OPEN snapshot's timer has reached its limit. -/
def Snapshot.due (x : Snapshot) : Bool :=
  match x.state with
  | .opened _ _ t => t.due
  | .filling => false

/-- The number of object bytes in a snapshot's coverage (R59). -/
def Snapshot.delivered (x : Snapshot) : Nat :=
  match x.state with
  | .opened _ coverage _ => coverage.length
  | .filling => 0

/-! ## Expiries -/

/-- A snapshot's limit expires (R59); nothing happens unless it is due (R40). -/
def Work.expireSnapshot (w : Work) (p : Port) (e : EntryIndex) : Work :=
  match w.s.snapshotOn p e with
  | some x =>
    if x.due then
      (w.report
        { source := .snapshotUnit, kind := .snapExpired, port := some p, entry := some e, address := none,
          detail := some x.delivered }).dropSnapshot p e
    else w
  | none => w

/-- A record's staging limit expires (R84); nothing happens unless it is due (R40). -/
def Work.expireRecord (w : Work) (p : Port) (e : EntryIndex) : Work :=
  match w.s.recordOn p e with
  | some r =>
    if r.timer.due then
      (w.report
        { source := .stagingUnit, kind := .stageExpired, port := some p, entry := some e, address := none,
          detail := some (maskCount r.bytes) }).dropRecord p e
    else w
  | none => w

/-- A HELD access's hold limit expires (R125, R50): the access is answered with error, or dropped when released, and
what it held is withdrawn. -/
def Work.expireHold (w : Work) (p : Port) : Work :=
  match (w.s.ports.get p).state with
  | .held h =>
    if h.timer.due then
      ((w.report
        { source := .port p, kind := .holdExpired, port := some p, entry := h.entry,
          address := some h.access.address, detail := some h.cause.number }).reply p h
            (errorAnswer h.access)).withdraw p
    else w
  | _ => w

/-- The answer limit of the attempt in flight expires (R99): the attempt has failed. -/
def Work.expireAnswer (w : Work) : Work :=
  match w.s.mem.inFlight with
  | some f => if f.timer.due then w.attemptFailed f else w
  | none => w

/-! ## Ticks -/

/-- A limit timer that can be due. -/
inductive Due where
  | snapshot (p : Port) (e : EntryIndex)
  | record (p : Port) (e : EntryIndex)
  | hold (p : Port)
  | answer
deriving DecidableEq, Repr

/-- Whether a port's hold limit is due. -/
def PortState.due : PortState → Bool
  | .held h => h.timer.due
  | _ => false

/-- The due timers that belong to one port. -/
def State.dueOfPort (s : State) (p : Port) : List Due :=
  ((s.snaps.get p).filter Snapshot.due).map (fun x => Due.snapshot p x.entry)
    ++ ((s.recs.get p).filter fun r => r.timer.due).map (fun r => Due.record p r.entry)
    ++ (if (s.ports.get p).state.due then [Due.hold p] else [])

/-- Every timer that has reached its limit. -/
def State.dues (s : State) : List Due :=
  s.dueOfPort .a ++ s.dueOfPort .b
    ++ (if (s.mem.inFlight.map fun f => f.timer.due) = some true then [Due.answer] else [])

/-- The expiry of one timer. -/
def Work.expire (w : Work) : Due → Work
  | .snapshot p e => w.expireSnapshot p e
  | .record p e => w.expireRecord p e
  | .hold p => w.expireHold p
  | .answer => w.expireAnswer

/-- A timer expires at its L-th tick (R40), so what an earlier tick has made due and no expiry command has taken yet
expires before the next tick is counted, each as an event of its own, in an order left open (log 4, log 6). -/
def State.expireOverdue : Nat → State → State
  | 0, s => s
  | fuel + 1, s =>
    match s.dues[(draw s.choices s.dues.length).1]? with
    | none => s
    | some d =>
      State.expireOverdue fuel
        (Work.expire (State.begin { s with choices := (draw s.choices s.dues.length).2 }) d).finish

/-- A snapshot's timer counts a tick; a FILLING one has none (R41). -/
def Snapshot.tick (x : Snapshot) : Snapshot :=
  match x.state with
  | .opened data coverage t => { x with state := .opened data coverage t.tick }
  | .filling => x

/-- A port's hold limit timer counts a tick while the access is HELD (R124). -/
def PortState.tick : PortState → PortState
  | .held h => .held { h with timer := h.timer.tick }
  | x => x

/-- Every running timer counts one tick (R38), and the period under way ends (R39). -/
def State.countTick (s : State) : State :=
  { s with
    snaps := ⟨s.snaps.a.map Snapshot.tick, s.snaps.b.map Snapshot.tick⟩
    recs := ⟨s.recs.a.map fun r => { r with timer := r.timer.tick },
             s.recs.b.map fun r => { r with timer := r.timer.tick }⟩
    ports := ⟨{ s.ports.a with state := s.ports.a.state.tick }, { s.ports.b with state := s.ports.b.state.tick }⟩
    mem := { s.mem with inFlight := s.mem.inFlight.map fun f => { f with timer := f.timer.tick } }
    time := { s.time with underWay := s.time.setting, count := 0, ticked := true } }

/-- One period of CLK with no event in it (R38; log 21): it is counted toward the next tick. The tick itself is TICK's, so
the count waits at the setting of the period under way; while RESETn is asserted it stays 0. -/
def State.clockPeriod (s : State) : State :=
  if !s.inReset && decide (s.time.count < s.time.underWay) then
    { s with time := { s.time with count := s.time.count + 1, ticked := false } }
  else s.pastTick

/-! ## Meanings -/

/-- TICK (R38). While RESETn is asserted there is no tick (R38, log 27). -/
def execTick (s : State) : Host.Outcome State Fault Refusal :=
  if s.inReset then .next s else .next (State.expireOverdue Config.overdueFuel s).countTick

/-- SNAPSHOT_LIMIT_EXPIRY (R59). -/
def execSnapshotLimitExpiry (p : Port) (e : EntryIndex) (s : State) : Host.Outcome State Fault Refusal :=
  .next (s.begin.expireSnapshot p e).finish

/-- STAGING_LIMIT_EXPIRY (R84). -/
def execStagingLimitExpiry (p : Port) (e : EntryIndex) (s : State) : Host.Outcome State Fault Refusal :=
  .next (s.begin.expireRecord p e).finish

/-- HOLD_LIMIT_EXPIRY (R125). -/
def execHoldLimitExpiry (p : Port) (s : State) : Host.Outcome State Fault Refusal :=
  .next (s.begin.expireHold p).finish

/-- MEMORY_ANSWER_LIMIT_EXPIRY (R99). -/
def execMemoryAnswerLimitExpiry (s : State) : Host.Outcome State Fault Refusal :=
  .next s.begin.expireAnswer.finish

end Sys2Proof.Machine
end

