-- ==== Sys2Proof/Machine/Dispatch.lean ====
section
/-! DEFINITION. exec: one arm for each command, in the order of spec/opcode_table.json. -/

namespace Sys2Proof.Machine

open Sys2Proof

def exec (i : Instr) (s : State) : Host.Outcome State Fault Refusal :=
  match i with
  | .deviceReset => Sys2Proof.Machine.execDeviceReset s
  | .deviceResetRelease => Sys2Proof.Machine.execDeviceResetRelease s
  | .portReset p => Sys2Proof.Machine.execPortReset p s
  | .portResetRelease p => Sys2Proof.Machine.execPortResetRelease p s
  | .portAArrival selected strobes addr data => Sys2Proof.Machine.execPortAArrival selected strobes addr data s
  | .portBArrival word isWrite enabled data => Sys2Proof.Machine.execPortBArrival word isWrite enabled data s
  | .strobeRelease sample => Sys2Proof.Machine.execStrobeRelease sample s
  | .tick => Sys2Proof.Machine.execTick s
  | .snapshotLimitExpiry p e => Sys2Proof.Machine.execSnapshotLimitExpiry p e s
  | .stagingLimitExpiry p e => Sys2Proof.Machine.execStagingLimitExpiry p e s
  | .holdLimitExpiry p => Sys2Proof.Machine.execHoldLimitExpiry p s
  | .memoryAnswerLimitExpiry => Sys2Proof.Machine.execMemoryAnswerLimitExpiry s
  | .grant => Sys2Proof.Machine.execGrant s
  | .memoryReadWord data strobe => Sys2Proof.Machine.execMemoryReadWord data strobe s
  | .memoryWriteAnswer strobe => Sys2Proof.Machine.execMemoryWriteAnswer strobe s
  | .mselnAssert => Sys2Proof.Machine.execMselnAssert s
  | .nop tag args => Sys2Proof.Machine.execNop tag args s
  | .readStatus tag args => Sys2Proof.Machine.execReadStatus tag args s
  | .setTimebase tag args => Sys2Proof.Machine.execSetTimebase tag args s
  | .setHold tag args => Sys2Proof.Machine.execSetHold tag args s
  | .setRetry tag args => Sys2Proof.Machine.execSetRetry tag args s
  | .setAlert tag args => Sys2Proof.Machine.execSetAlert tag args s
  | .writeEntry tag args => Sys2Proof.Machine.execWriteEntry tag args s
  | .deleteEntry tag args => Sys2Proof.Machine.execDeleteEntry tag args s
  | .readEntry tag args => Sys2Proof.Machine.execReadEntry tag args s
  | .clearPoison tag args => Sys2Proof.Machine.execClearPoison tag args s
  | .peekEvents tag args => Sys2Proof.Machine.execPeekEvents tag args s
  | .ackEvents tag args => Sys2Proof.Machine.execAckEvents tag args s
  | .flush tag args => Sys2Proof.Machine.execFlush tag args s
  | .unknownCommand code tag args => Sys2Proof.Machine.execUnknownCommand code tag args s
  | .requestCompletion => Sys2Proof.Machine.execRequestCompletion s
  | .discardedFrame mdi => Sys2Proof.Machine.execDiscardedFrame mdi s

end Sys2Proof.Machine
end

