-- ==== Sys2Proof/WellFormed.lean ====
section
/-! DEFINITION. Which commands describe an event their row can be.
The meanings are total all the same: an ill-formed command acts as the pins it describes would. -/

namespace Sys2Proof

/-- A frame's argument length is at most 11 (R169). -/
def argsFit (args : List Byte) : Bool := args.length ≤ Config.maxArgs

/-- The well-formedness of a command.
A link row's arguments fit a frame; UNKNOWN_COMMAND's code is not 0 and names no command; a release
releases some strobe; a discarded frame had at least one edge of MCK (R167). -/
def Instr.wellFormed : Instr → Bool
  | .deviceReset => true
  | .deviceResetRelease => true
  | .portReset _ => true
  | .portResetRelease _ => true
  | .portAArrival _ _ _ _ => true
  | .portBArrival _ _ _ _ => true
  | .strobeRelease (.portA r w) => !(r && w)
  | .strobeRelease .portB => true
  | .tick => true
  | .snapshotLimitExpiry _ _ => true
  | .stagingLimitExpiry _ _ => true
  | .holdLimitExpiry _ => true
  | .memoryAnswerLimitExpiry => true
  | .grant => true
  | .memoryReadWord _ _ => true
  | .memoryWriteAnswer _ => true
  | .mselnAssert => true
  | .nop _ args => argsFit args
  | .readStatus _ args => argsFit args
  | .setTimebase _ args => argsFit args
  | .setHold _ args => argsFit args
  | .setRetry _ args => argsFit args
  | .setAlert _ args => argsFit args
  | .writeEntry _ args => argsFit args
  | .deleteEntry _ args => argsFit args
  | .readEntry _ args => argsFit args
  | .clearPoison _ args => argsFit args
  | .peekEvents _ args => argsFit args
  | .ackEvents _ args => argsFit args
  | .flush _ args => argsFit args
  | .unknownCommand code _ args => argsFit args && code != 0 && (commandOfCode code).isNone
  | .requestCompletion => true
  | .discardedFrame mdi => !mdi.isEmpty

end Sys2Proof
end

