-- ==== Sys2Proof/Safety.lean ====
section
/-! DEFINITION. What a sound state of the block is, in the terms the statements use: the invariants the spec's rules give. -/

namespace Sys2Proof.Machine

open Sys2Proof

/-! ## Counting users (R14) -/

/-- The snapshots of a port on an entry. -/
def State.snapshotCount (s : State) (p : Port) (e : EntryIndex) : Nat :=
  (s.snaps.get p).countP fun x => x.entry == e

/-- The OPEN records of a port on an entry. -/
def State.openCount (s : State) (p : Port) (e : EntryIndex) : Nat :=
  (s.recs.get p).countP fun r => r.entry == e

/-- The records of either port on an entry in the commit queue. -/
def State.queuedCount (s : State) (e : EntryIndex) : Nat := s.queue.countP fun r => r.entry == e

/-- The sum R14 gives the user count. -/
def State.userSum (s : State) (e : EntryIndex) : Nat :=
  s.snapshotCount .a e + s.snapshotCount .b e + s.openCount .a e + s.openCount .b e + s.queuedCount e

/-- R14, with R12 for EMPTY and POISONED entries: every user count is exact. -/
def State.usersExact (s : State) : Prop := ∀ e, (s.entry e).users = s.userSum e

/-- R12: a DRAINING entry has at least one user. -/
def State.drainingUsed (s : State) : Prop := ∀ e, (s.entry e).isDraining = true → 1 ≤ (s.entry e).users

/-! ## Tables without overlap (R19) -/

/-- R19: no two entries of different index reserve a word in common. -/
def State.disjoint (s : State) : Prop :=
  ∀ e f, e ≠ f → ∀ c ∈ (s.entry e).reserved, ∀ d ∈ (s.entry f).reserved, c.overlaps d = false

/-- R18: every content in the table, installed or pending, is legal. -/
def State.contentsLegal (s : State) : Prop := ∀ e, ∀ c ∈ (s.entry e).reserved, c.legal = true

/-! ## Pools (R42, R69) -/

/-- R42 and R69: a port holds at most 4 snapshots and at most 4 records, at most one snapshot per entry and at most one
OPEN record per entry. -/
def State.poolsBounded (s : State) : Prop :=
  ∀ p,
    (s.snaps.get p).length ≤ Config.slotsPerPort ∧ s.recordsInUse p ≤ Config.recordsPerPort
      ∧ ∀ e, s.snapshotCount p e ≤ 1 ∧ s.openCount p e ≤ 1

/-! ## The event queue (R154) -/

/-- Sequence numbers rise by one from record to record, up to the next sequence. -/
def consecutive (next : BitVec 16) : List EventRecord → Prop
  | [] => True
  | r :: rs => (r.sequence + 1 = (rs.head?.map EventRecord.sequence).getD next) ∧ consecutive next rs

/-- R154, R158: at most 32 records, consecutive in sequence up to the next sequence, and a pending-drop count of at most
255. -/
def EventQueue.sound (q : EventQueue) : Prop :=
  q.records.length ≤ Config.queueCapacity ∧ consecutive q.nextSequence q.records ∧ q.drops ≤ Config.dropLimit

/-! ## Settings (R178) -/

/-- Every setting is in its range, and the count of core clock periods within the period under way, 0 right after a tick. -/
def State.settingsLegal (s : State) : Prop :=
  (10 ≤ s.time.setting ∧ s.time.setting ≤ 200) ∧ (10 ≤ s.time.underWay ∧ s.time.underWay ≤ 200)
    ∧ s.time.count ≤ s.time.underWay ∧ (s.time.ticked = true → s.time.count = 0)
    ∧ (∀ p, 1 ≤ (s.ports.get p).holdLimit ∧ (s.ports.get p).holdLimit ≤ 65535)
    ∧ s.mem.retryLimit ≤ 7 ∧ (1 ≤ s.events.threshold ∧ s.events.threshold ≤ 32)

/-! ## Pins -/

/-- The output pins stand at the levels the state gives them (R163, R117, R96, R168). -/
def State.pinsDriven (s : State) : Prop := s.pins = s.pinLevels

/-- R121, R122 and R27: the answer of a write carries no data, any other carries one word, and an error answer all ones. -/
def State.answersMatched (s : State) : Prop :=
  ∀ p a ans, (s.ports.get p).state = .answered a ans →
    (a.direction = .write → ans.data = none)
      ∧ (a.direction ≠ .write → ∃ w, ans.data = some w ∧ (ans.error = true → w = 0xffffffff))

/-! ## Claims (R86) -/

/-- Whether the content's claim is EXCLUSIVE. -/
def Content.isExclusive (c : Content) : Bool := c.claim == .exclusive

/-- Whether an entry has an installed content with claim EXCLUSIVE. -/
def Entry.isExclusive (x : Entry) : Bool := (x.content?.map Content.isExclusive).getD false

/-- R86: all records of an EXCLUSIVE entry belong to its claim holder, a holder has a record, and without a holder
neither port has one; an entry that is not EXCLUSIVE has no holder. -/
def State.claimsSound (s : State) : Prop :=
  ∀ e,
    if (s.entry e).isExclusive then
      match s.claims[e] with
      | some p => s.holdsRecord p e = true ∧ s.holdsRecord p.other e = false
      | none => s.holdsRecord .a e = false ∧ s.holdsRecord .b e = false
    else s.claims[e] = none

/-! ## Ports and requests (R100, R117, R130, R133, R137) -/

/-- R117, R130, R133, R137 and R100: a port is IN_RESET exactly while its reset line is asserted; during a device reset it
is IDLE or IN_RESET; and a port side's waiting request is its own, with the port's access HELD with cause MEMORY. -/
def State.portsMatched (s : State) : Prop :=
  ∀ p,
    ((s.ports.get p).resetLow = true ↔ (s.ports.get p).state = .inReset)
      ∧ (s.inReset = true → (s.ports.get p).state = .idle ∨ (s.ports.get p).state = .inReset)
      ∧ ∀ t, s.mem.waiting.get p = some t →
          t.purpose.requester = .port p
            ∧ ∃ h, (s.ports.get p).state = .held h ∧ h.cause = .memory

/-! ## The commit engine (R79 to R81) -/

/-- The transfer in flight, when it is a commit's. -/
def MemoryPort.commitInFlight (m : MemoryPort) : Option Transfer :=
  match m.inFlight with
  | some f => if f.transfer.purpose.requester = .commit then some f.transfer else none
  | none => none

/-- R80 and R81: the engine is idle exactly while the queue is empty; otherwise it has one burst, waiting or in flight,
and that is the burst of the head's record under its entry's installed content. -/
def State.engineMatched (s : State) : Prop :=
  match s.queue with
  | [] => s.mem.waitingCommit = none ∧ s.mem.commitInFlight = none
  | r :: _ =>
    ∃ c, (s.entry r.entry).content? = some c
      ∧ ((s.mem.waitingCommit = some (commitTransfer r c) ∧ s.mem.commitInFlight = none)
        ∨ (s.mem.waitingCommit = none ∧ s.mem.commitInFlight = some (commitTransfer r c)))

/-- R81, written out: the transfer is the commit burst of record `r` under content `c`. It writes the whole extent from the
base on; its word `k` enables the lanes of the extent bytes 4k to 4k+3 that are in the mask, and carries the record's bytes
there and 0 on the other lanes (log 26). -/
def Transfer.isBurstOf (x : Transfer) (r : CommitRecord) (c : Content) : Prop :=
  x.kind = .burstWrite ∧ x.purpose = .commit r.port r.entry ∧ (c.base < 1048576 → x.first.toNat = c.base)
    ∧ x.length = (c.length + 3) / 4 ∧ x.writes.length = x.length
    ∧ ∀ k w, x.writes[k]? = some w → ∀ l, l < 4 →
        match r.bytes[4 * k + l]? with
        | some (some b) => w.lanes.getLsbD l = true ∧ w.data.extractLsb' (8 * l) 8 = b
        | _ => w.lanes.getLsbD l = false ∧ w.data.extractLsb' (8 * l) 8 = 0

/-! ## What a lookup finds (R2, R5) -/

/-- The entry has an installed content whose extent holds the word; a pending replacement is not searched. -/
def Entry.holdsWord (x : Entry) (w : Nat) : Prop :=
  match x with
  | .empty => False
  | .active c _ _ => c.base ≤ w ∧ w < c.base + (c.length + 3) / 4
  | .draining c _ _ _ => c.base ≤ w ∧ w < c.base + (c.length + 3) / 4
  | .poisoned c _ _ _ => c.base ≤ w ∧ w < c.base + (c.length + 3) / 4

/-! ## The terms of the statements: one named part of a state replaced -/

/-- A port in another state. -/
def State.withPort (s : State) (p : Port) (x : PortState) : State :=
  { s with ports := s.ports.set p { s.ports.get p with state := x } }

/-- A port that has taken an arrival (R120). -/
def State.withArrival (s : State) (p : Port) (x : PortState) : State :=
  { s with ports := s.ports.set p { s.ports.get p with state := x, strobeLow := true, armed := false } }

/-- A port side's waiting request replaced. -/
def State.withWaiting (s : State) (p : Port) (t : Option Transfer) : State :=
  { s with mem := { s.mem with waiting := s.mem.waiting.set p t } }

/-- The transfer in flight replaced. -/
def State.withInFlight (s : State) (f : Option InFlight) : State := { s with mem := { s.mem with inFlight := f } }

/-- A port's snapshots replaced. -/
def State.withSnaps (s : State) (p : Port) (l : List Snapshot) : State := { s with snaps := s.snaps.set p l }

/-- A port's OPEN records replaced. -/
def State.withRecs (s : State) (p : Port) (l : List OpenRecord) : State := { s with recs := s.recs.set p l }

/-- An entry replaced. -/
def State.withEntry (s : State) (e : EntryIndex) (x : Entry) : State := { s with table := s.table.set e x }

/-- A claim holder replaced. -/
def State.withClaim (s : State) (e : EntryIndex) (h : Option Port) : State := { s with claims := s.claims.set e h }

/-- What an event carries to the queue (R155); the queue does not look at the source. -/
def note (kind : EventKind) (port : Option Port) (entry : Option EntryIndex) (address : Option ByteAddr)
    (detail : Option Nat) : Report :=
  { source := .link, kind := kind, port := port, entry := entry, address := address, detail := detail }

/-- An event entered or dropped (R157, R158). -/
def State.recorded (s : State) (kind : EventKind) (port : Option Port) (entry : Option EntryIndex)
    (address : Option ByteAddr) (detail : Option Nat) : State :=
  { s with events := s.events.enter (note kind port entry address detail) }

/-- `t` is `s` after two events of one step by different blocks, in one order or the other (R159), the draw counted
(log 6), and the pins driven. -/
def State.recordedEither (s : State) (x y : Report) (t : State) : Prop :=
  t = State.drivePins { s with events := (s.events.enter x).enter y, choices := s.choices + 1 }
    ∨ t = State.drivePins { s with events := (s.events.enter y).enter x, choices := s.choices + 1 }

/-- `q'` is the queue `q` after the reports of one step by different blocks, in some order (R159, R184). -/
def EventQueue.takesAll (q : EventQueue) (reports : List Report) (q' : EventQueue) : Prop :=
  ∃ l : List Report, l.Perm reports ∧ q' = l.foldl EventQueue.enter q

/-- The response slot after the taking of a request, with MSELn released (R173). -/
def State.withSlot (s : State) (tag : Byte) (status : Status) (results : List Byte) : State :=
  { s with
    link := { tag := tag, status := status, results := results, pendingMark := true, select := .high } }

/-- MSELn released, and nothing else. -/
def State.deselected (s : State) : State := { s with link := { s.link with select := .high } }

/-- A record at the tail of the commit queue; it asks for its burst at once where the queue was empty (R78, R80). -/
def State.queued (s : State) (r : CommitRecord) (c : Content) : State :=
  { s with
    queue := s.queue ++ [r]
    mem := if s.queue.isEmpty then { s.mem with waitingCommit := some (commitTransfer r c) } else s.mem }

/-- An entry replaced, without a claim holder (R144). -/
def State.installedAs (s : State) (e : EntryIndex) (x : Entry) : State := (s.withEntry e x).withClaim e none

/-- A user of an entry gone, its last one on a DRAINING entry installing the replacement (R15, R22, R144). -/
def State.userLeft (s : State) (e : EntryIndex) : State :=
  match s.entry e with
  | .active c v u => s.withEntry e (.active c v (u - 1))
  | .draining c v u r =>
    if 2 ≤ u then s.withEntry e (.draining c v (u - 1) r)
    else
      (s.installedAs e r.installed).recorded .entryInstalled none (some e) none (some r.detail)
  | _ => s

/-- The claim of an entry after a record of the port on it has gone (R87). -/
def State.claimChecked (s : State) (p : Port) (e : EntryIndex) : State :=
  if s.claims[e] = some p ∧ s.holdsRecord p e = false then s.withClaim e none else s

/-! ## The conditions of the statements -/

/-- Whether a port's access is HELD in a way a condition names. -/
def State.holds (s : State) (p : Port) (f : Held → Bool) : Bool :=
  match (s.ports.get p).state with
  | .held h => f h
  | _ => false

/-- Neither port's access is HELD in a way a condition names. -/
def State.nobodyHeld (s : State) (f : Held → Bool) : Bool := !s.holds .a f && !s.holds .b f

/-- A held access is concerned by a table event of an entry (R35 cause DRAIN, R37, R145). -/
def Held.concerned (h : Held) (e : EntryIndex) (before after : Option Content) : Bool :=
  (h.cause == .drain && h.entry == some e)
    || coversOpt before h.access.word.toNat || coversOpt after h.access.word.toNat

/-- No held access is concerned by a table event of an entry. -/
def State.unconcerned (s : State) (e : EntryIndex) (before after : Option Content) : Bool :=
  s.nobodyHeld fun h => h.concerned e before after

/-- The content a replacement installs, if any. -/
def Replacement.content? : Replacement → Option Content
  | .content c => some c
  | .delete => none

/-- A user can leave the entry without a held access being classified again. -/
def State.leavesQuietly (s : State) (e : EntryIndex) : Bool :=
  match s.entry e with
  | .draining c _ u r => decide (2 ≤ u) || s.unconcerned e (some c) r.content?
  | _ => true

/-- A user can leave the entry without an install. -/
def State.keepsContent (s : State) (e : EntryIndex) : Bool :=
  match s.entry e with
  | .active _ _ _ => true
  | .draining _ _ u _ => decide (2 ≤ u)
  | _ => false

/-- The entry serves accesses under content `c`: it is DRAINING or ACTIVE, as `draining` says. -/
def State.serves (s : State) (e : EntryIndex) (c : Content) (draining : Bool) : Bool :=
  match s.entry e with
  | .active d _ _ => !draining && d == c
  | .draining d _ _ _ => draining && d == c
  | _ => false

/-- The port side has no fill of the entry waiting. -/
def State.noFillWaits (s : State) (p : Port) (e : EntryIndex) : Bool :=
  match s.mem.waiting.get p with
  | some t =>
    match t.purpose with
    | .fill _ _ f => f != e
    | _ => true
  | none => true

/-- The port side has no fill waiting. -/
def State.noFillAsked (s : State) (p : Port) : Bool :=
  match s.mem.waiting.get p with
  | some t =>
    match t.purpose with
    | .fill _ _ _ => false
    | _ => true
  | none => true

/-- The access opens a snapshot or a record where the port has none (R43, R70). -/
def Access.opens (a : Access) (c : Content) : Bool := c.order == .any || a.touchesLead c

/-- The access restarts the port's OPEN snapshot with that coverage (R43, R55). -/
def Access.restarts (a : Access) (c : Content) (coverage : List Nat) : Bool :=
  if c.order = .any then (a.objectBytes c).any fun k => coverage.contains k else a.touchesLead c

/-- The access a command brings to a port that takes it, those of no direction or no lane apart (R118, R119). -/
def arrivalOf (i : Instr) (s : State) : Option (Port × Access) :=
  match i with
  | .portAArrival true strobes addr data =>
    if strobes ≠ .both ∧ s.takesArrival .a = true then
      some (.a, captureA strobes addr data s.ports.a.holdLimit)
    else none
  | .portBArrival word isWrite enabled data =>
    if enabled ≠ 0 ∧ s.takesArrival .b = true then
      some (.b, captureB word isWrite enabled data s.ports.b.holdLimit)
    else none
  | _ => none

/-- An access held at its arrival. -/
def heldAs (a : Access) (cause : HoldCause) (entry : Option EntryIndex) : PortState :=
  .held
    { access := a, cause := cause, entry := entry, timer := { limit := a.limit, counted := 0 }, released := false }

/-- An error answer on the pins (R121, R122). -/
def refusedWith (a : Access) : PortState :=
  .answered a { error := true, data := if a.direction = .write then none else some 0xffffffff }

/-- A plain answer of a write on the pins. -/
def writtenOk (a : Access) : PortState := .answered a { error := false, data := none }

/-! ## What becomes of a classified access

Each is the state after one outcome of section 2.1, for an access at its arrival or classified again (R36). -/

/-- A read opens a snapshot on an ACTIVE entry with content `c` now (R43, R44). -/
def State.readOpens (s : State) (p : Port) (a : Access) (e : EntryIndex) (c : Content) : Bool :=
  a.direction != .write && !(a.objectBytes c).isEmpty && !s.ownsCommit p e && c.readPolicy == .snapshot
    && (s.snapshotOn p e).isNone && a.opens c && decide ((s.snaps.get p).length < 4)

/-- A write opens a record on an ACTIVE entry with content `c` now (R70, R72). -/
def State.writeOpens (s : State) (p : Port) (a : Access) (e : EntryIndex) (c : Content) : Bool :=
  a.direction == .write && !(a.objectBytes c).isEmpty && (s.snapshotOn p e).isNone && c.allows p
    && c.writePolicy == .staged && (s.recordOn p e).isNone && a.opens c
    && !(c.claim == .exclusive && s.claims[e] == some p.other) && decide (s.recordsInUse p < 4)

/-- The access waits for its plain transfer (R34). -/
def State.asksPlain (s : State) (p : Port) (h : Held) (entry : Option EntryIndex) : State :=
  (s.withPort p (.held { h with cause := .memory, entry := entry })).withWaiting p
    (some
      { kind := if h.access.direction = .write then .singleWrite else .singleRead
        first := h.access.word
        length := 1
        writes :=
          if h.access.direction = .write then [{ data := h.access.data, lanes := h.access.lanes }] else []
        purpose := .plain p h.access.address entry })

/-- The read has taken a slot on an entry that was ACTIVE at version `v` with `u` users, and waits for its fill (R44). -/
def State.opensSnapshot (s : State) (p : Port) (h : Held) (e : EntryIndex) (c : Content) (v : BitVec 16) (u : Nat) :
    State :=
  (((s.withPort p (.held { h with cause := .memory, entry := some e })).withSnaps p
    (s.snaps.get p ++ [{ entry := e, state := .filling }])).withEntry e (.active c v (u + 1))).withWaiting p
      (some
        { kind := .burstRead, first := BitVec.ofNat 20 c.base, length := c.extent, writes := [],
          purpose := .fill p h.access.address e })

/-- The write has opened a record on an entry that was ACTIVE at version `v` with `u` users, and is answered OK, or dropped
when released; a record opened complete has joined the commit queue (R72, R78). -/
def State.opensRecord (s : State) (p : Port) (h : Held) (e : EntryIndex) (c : Content) (v : BitVec 16) (u : Nat) :
    State :=
  let bytes := enterBytes (List.replicate (4 * c.extent) none) c h.access
  let answered := (s.withPort p (if h.released = true then .idle else writtenOk h.access)).withEntry e
    (.active c v (u + 1))
  let claimed := if c.claim = .exclusive then answered.withClaim e (some p) else answered
  if c.written bytes = true then claimed.queued { port := p, entry := e, bytes := bytes } c
  else
    claimed.withRecs p
      (s.recs.get p ++ [{ entry := e, bytes := bytes, timer := { limit := c.stagingLimit, counted := 0 } }])

/-- The access is refused with error, or dropped when released (R29, R125, R135). -/
def State.refuses (s : State) (p : Port) (h : Held) : State :=
  s.withPort p (if h.released = true then .idle else refusedWith h.access)

/-! ## Discards of a port reset or a FLUSH (R131, R135, R152) -/

/-- The users that the discard of all of a port's snapshots and OPEN records takes from an entry. -/
def State.discardsOn (s : State) (p : Port) (e : EntryIndex) : Nat := s.snapshotCount p e + s.openCount p e

/-- An entry with `n` users fewer. -/
def Entry.fewer (x : Entry) (n : Nat) : Entry :=
  match x with
  | .active c v u => .active c v (u - n)
  | .draining c v u r => .draining c v (u - n) r
  | x => x

/-- Two states agree in the commit queue and its burst, in a port with its request, snapshots and OPEN records, and in an
entry with its claim holder. -/
def State.agreesOn (t u : State) (p : Port) (e : EntryIndex) : Prop :=
  t.queue = u.queue ∧ t.mem.waitingCommit = u.mem.waitingCommit ∧ t.ports.get p = u.ports.get p
    ∧ t.mem.waiting.get p = u.mem.waiting.get p ∧ t.snaps.get p = u.snaps.get p ∧ t.recs.get p = u.recs.get p
    ∧ t.entry e = u.entry e ∧ t.claims[e] = u.claims[e]

/-- What the install of `r` on an entry that had content `c` leads to at a port (R145), given the state `bare` it leaves: an
access held there that the install concerns is classified again against the new table, where on no entry it goes plain and
on the new content it may open a snapshot or a record; any other stays as it is. -/
def State.installLeadsTo (bare : State) (p : Port) (e : EntryIndex) (c : Content) (r : Replacement) (u : State) : Prop :=
  (bare.holds p (fun h => h.concerned e (some c) r.content?) = false ∧ u = bare)
    ∨ ∃ h, (bare.ports.get p).state = .held h ∧ bare.noFillAsked p = true ∧ h.concerned e (some c) r.content? = true
        ∧ ((bare.lookup h.access.word = none ∧ u = (bare.withWaiting p none).asksPlain p h none)
          ∨ ∃ d, r = .content d ∧ bare.lookup h.access.word = some e
              ∧ ((bare.readOpens p h.access e d = true ∧ u = (bare.withWaiting p none).opensSnapshot p h e d 0 0)
                ∨ (bare.writeOpens p h.access e d = true ∧ u = (bare.withWaiting p none).opensRecord p h e d 0 0)))

/-! ## The link -/

/-- The link takes a request now: no device reset, no ignored select period, and the image shifted out was not PENDING
(R169, R172, R186). -/
def State.takesRequest (s : State) : Bool :=
  !s.inReset && s.link.select != .ignored && !s.link.imagePending

/-- The link judges a frame now (R169, R186). -/
def State.judgesFrame (s : State) : Bool := !s.inReset && s.link.select != .ignored

/-- The row of a command with a code (R190). -/
def rowOf (cmd : Command) (tag : Byte) (args : List Byte) : Instr :=
  match cmd with
  | .readStatus => .readStatus tag args
  | .setTimebase => .setTimebase tag args
  | .setHold => .setHold tag args
  | .setRetry => .setRetry tag args
  | .setAlert => .setAlert tag args
  | .writeEntry => .writeEntry tag args
  | .deleteEntry => .deleteEntry tag args
  | .readEntry => .readEntry tag args
  | .clearPoison => .clearPoison tag args
  | .peekEvents => .peekEvents tag args
  | .ackEvents => .ackEvents tag args
  | .flush => .flush tag args

/-- The frame a link row carries: code, tag, argument bytes (R189). -/
def frameOf : Instr → Option (Byte × Byte × List Byte)
  | .nop tag args => some (0, tag, args)
  | .readStatus tag args => some (1, tag, args)
  | .setTimebase tag args => some (16, tag, args)
  | .setHold tag args => some (17, tag, args)
  | .setRetry tag args => some (18, tag, args)
  | .setAlert tag args => some (19, tag, args)
  | .writeEntry tag args => some (32, tag, args)
  | .deleteEntry tag args => some (33, tag, args)
  | .readEntry tag args => some (34, tag, args)
  | .clearPoison tag args => some (35, tag, args)
  | .peekEvents tag args => some (48, tag, args)
  | .ackEvents tag args => some (49, tag, args)
  | .flush tag args => some (64, tag, args)
  | .unknownCommand code tag args => some (code, tag, args)
  | _ => none

end Sys2Proof.Machine
end

