-- ==== Sys2Proof/Certificates/Slice0/Obligations.lean ====
section
/-! DEFINITION. The statements for the provers. Each speaks of every state that meets its hypotheses, reached by a run or
not; OBLIGATIONS.json says which rules each rests on. -/

open Sys2Proof Sys2Proof.Machine

/-! ## The step and the state after reset -/

/-- The step runs the command at the front with the queue's rest; on an empty queue one period of CLK is counted toward the
next tick, up to the setting of the period under way, and nothing else changes but that a tick before it is past (log 2,
log 21). -/
def Obligations.StepRunsFrontCommand : Prop :=
  ∀ s : State,
    (s.pending = [] →
      step s =
        .next
          { s with
            time :=
              { s.time with
                count := if s.inReset = false ∧ s.time.count < s.time.underWay then s.time.count + 1 else s.time.count
                ticked := false } })
      ∧ ∀ c rest, s.pending = c :: rest → step s = exec c { s with pending := rest }

/-- Every command answers a next state, in every state, and none touches the queue of commands (log 2): nothing in the part
stops it. -/
def Obligations.EveryCommandCompletesAndKeepsQueue : Prop :=
  ∀ (i : Instr) (s : State), ∃ t, exec i s = .next t ∧ t.pending = s.pending

/-- The values R3, R38, R42, R69, R79, R86, R100, R110, R124, R154 and R174 give for device reset. -/
def Obligations.ResetLeavesTheStatedValues : Prop :=
  (∀ e : EntryIndex, State.reset.entry e = .empty) ∧ State.reset.snaps = ⟨[], []⟩ ∧ State.reset.recs = ⟨[], []⟩
    ∧ State.reset.queue = [] ∧ (∀ e : EntryIndex, State.reset.claims[e] = none)
    ∧ (∀ p, (State.reset.ports.get p).state = .idle ∧ (State.reset.ports.get p).holdLimit = 2000)
    ∧ State.reset.mem.inFlight = none ∧ State.reset.mem.lastGranted = .commit
    ∧ State.reset.mem.waiting = ⟨none, none⟩ ∧ State.reset.mem.waitingCommit = none
    ∧ State.reset.mem.retryLimit = 3 ∧ State.reset.time.setting = 50 ∧ State.reset.time.count = 0
    ∧ State.reset.events = { records := [], nextSequence := 0, drops := 0, threshold := 16, poisonAlert := true }
    ∧ State.reset.link.tag = 0 ∧ State.reset.link.status = .none ∧ State.reset.link.results = []
    ∧ State.reset.link.pendingMark = false ∧ State.reset.pins.alertn = true

/-- The state after reset has every invariant of Safety.lean. -/
def Obligations.ResetHasTheInvariants : Prop :=
  State.reset.usersExact ∧ State.reset.drainingUsed ∧ State.reset.disjoint ∧ State.reset.contentsLegal
    ∧ State.reset.poolsBounded ∧ State.reset.claimsSound ∧ State.reset.events.sound ∧ State.reset.settingsLegal
    ∧ State.reset.portsMatched ∧ State.reset.answersMatched ∧ State.reset.engineMatched ∧ State.reset.pinsDriven

/-! ## Resets -/

/-- DEVICE_RESET puts everything at its reset value; only the levels of the input lines, the queue of commands and the
count of draws stay (log 27). Its release changes the ports' states and their arming alone. A port reset line asserted
while RESETn is asserted records nothing; its release makes the port IDLE, to be armed once its strobe is sampled
deasserted (log 8). A line that does not change its level changes nothing (log 10; a tick before it is past, log 21). -/
def Obligations.ResetLinesFollowed : Prop :=
  ∀ s : State,
    exec .deviceReset s =
        .next
          { State.reset with
            ports :=
              ⟨{ state := if s.ports.a.resetLow then .inReset else .idle, armed := !s.ports.a.strobeLow,
                 strobeLow := s.ports.a.strobeLow, resetLow := s.ports.a.resetLow, holdLimit := 2000 },
               { state := if s.ports.b.resetLow then .inReset else .idle, armed := !s.ports.b.strobeLow,
                 strobeLow := s.ports.b.strobeLow, resetLow := s.ports.b.resetLow, holdLimit := 2000 }⟩
            link := { Link.reset with select := if s.link.select = .high then .high else .ignored }
            inReset := true
            choices := s.choices
            pending := s.pending }
      ∧ (s.inReset = true →
          exec .deviceResetRelease s =
            .next
              (State.drivePins
                { s with
                  ports :=
                    ⟨{ s.ports.a with
                       state := if s.ports.a.resetLow then .inReset else .idle, armed := !s.ports.a.strobeLow },
                     { s.ports.b with
                       state := if s.ports.b.resetLow then .inReset else .idle, armed := !s.ports.b.strobeLow }⟩
                  inReset := false }))
      ∧ (s.inReset = false → exec .deviceResetRelease s = .next s.pastTick)
      ∧ ∀ p : Port,
          ((s.ports.get p).resetLow = true →
            exec (.portReset p) s = .next s.pastTick
              ∧ exec (.portResetRelease p) s =
                  .next
                    (State.drivePins
                      { s with
                        ports := s.ports.set p
                          { s.ports.get p with
                            state := .idle, armed := !(s.ports.get p).strobeLow, resetLow := false } }))
            ∧ ((s.ports.get p).resetLow = false →
                exec (.portResetRelease p) s = .next s.pastTick
                  ∧ (s.inReset = true →
                      exec (.portReset p) s =
                        .next
                          (State.drivePins
                            { s with
                              ports := s.ports.set p
                                { s.ports.get p with state := .inReset, armed := false, resetLow := true } })))

/-- A port reset discards the port's access, snapshots and OPEN records, keeps its queued records, lets its granted
transfer run on answering nothing, and leaves the link, the settings and the arbiter alone. With the other port not held on a
claim: where no discard takes a DRAINING entry to no users, every entry loses the users discarded, PORT_RESET is recorded with
the count of discards, and the other port stays as it is; where the discards take one to no users, its replacement installs
in the same event, ENTRY_INSTALLED enters before or after PORT_RESET (R152; log 6), and an access of the other port that the
install concerns is classified again (R145). -/
def Obligations.PortResetDiscardsUnfinishedWork : Prop :=
  ∀ (p : Port) (s : State),
    (s.ports.get p).resetLow = false → s.inReset = false →
      ∃ t, exec (.portReset p) s = .next t
        ∧ t.ports.get p = { s.ports.get p with state := .inReset, armed := false, resetLow := true }
        ∧ t.snaps.get p = [] ∧ t.recs.get p = [] ∧ t.mem.waiting.get p = none
        ∧ (∃ l, t.queue = s.queue ++ l ∧ ∀ r ∈ l, r.port = p.other)
        ∧ t.link = s.link ∧ t.time = s.pastTick.time ∧ t.mem.retryLimit = s.mem.retryLimit
        ∧ t.mem.lastGranted = s.mem.lastGranted
        ∧ (t.ports.get p.other).holdLimit = (s.ports.get p.other).holdLimit
        ∧ t.events.threshold = s.events.threshold ∧ t.events.poisonAlert = s.events.poisonAlert
        ∧ t.mem.inFlight =
            s.mem.inFlight.map
              (fun f => if f.transfer.purpose.requester = .port p then { f with orphan := true } else f)
        ∧ (s.holds p.other (fun h => h.cause == .claim) = false →
            let x := note .portReset (some p) none none (some ((s.snaps.get p).length + (s.recs.get p).length))
            let spared : EntryIndex → Prop := fun e =>
              ∀ c v u r, s.entry e = .draining c v u r → s.discardsOn p e < u ∨ s.discardsOn p e = 0
            ((∀ e, spared e) →
              t.events = s.events.enter x ∧ (∀ e, t.entry e = (s.entry e).fewer (s.discardsOn p e))
                ∧ t.ports.get p.other = s.ports.get p.other ∧ t.snaps.get p.other = s.snaps.get p.other
                ∧ t.recs.get p.other = s.recs.get p.other ∧ t.queue = s.queue)
              ∧ ∀ e c v u r, s.entry e = .draining c v u r → s.discardsOn p e = u → 1 ≤ u → (∀ f, f ≠ e → spared f) →
                  let y := note .entryInstalled none (some e) none (some r.detail)
                  let bare := ((s.withSnaps p []).withRecs p []).installedAs e r.installed
                  ∀ w, bare.installLeadsTo p.other e c r w →
                    t.agreesOn w p.other e
                      ∧ (t.events = (s.events.enter x).enter y ∨ t.events = (s.events.enter y).enter x))

/-! ## Arrivals that need no lookup -/

/-- What each port captures at an arrival, what its lookup returns, and which object bytes it touches. That the write data
hold 0 on a lane that is not enabled is the model's choice (log 26). A lookup returns an entry whose installed extent holds
the word, and none only where no entry's does; with no two extents sharing a word it returns the one that does (R2). The lead
byte is the one the order names (R6). -/
def Obligations.ArrivalCapturesTheAccess : Prop :=
  (∀ strobes addr data limit,
      let a := captureA strobes addr data limit
      a.word.toNat = addr.toNat / 4 ∧ (∀ l, l < 4 → (a.lanes.getLsbD l = true ↔ l = addr.toNat % 4))
        ∧ a.address = addr ∧ a.limit = limit
        ∧ (a.direction = .read ↔ strobes = .read) ∧ (a.direction = .write ↔ strobes = .write)
        ∧ (strobes = .write → byteLane a.data (addr.toNat % 4) = data))
    ∧ (∀ word isWrite enabled data limit,
        let a := captureB word isWrite enabled data limit
        a.word = word ∧ a.lanes = enabled ∧ a.limit = limit
          ∧ a.direction = (if isWrite = true then .write else .read)
          ∧ (∀ l, l < 4 → enabled.getLsbD l = true → (∀ m, m < l → enabled.getLsbD m = false) →
              a.address.toNat = 4 * word.toNat + l)
          ∧ (enabled = 0 → a.address.toNat = 4 * word.toNat)
          ∧ ∀ l, l < 4 → isWrite = true →
              byteLane a.data l = if enabled.getLsbD l = true then byteLane data l else 0)
    ∧ (∀ (s : State) (w : WordAddr),
        (∀ e, s.lookup w = some e → (s.entry e).holdsWord w.toNat)
          ∧ (s.lookup w = none → ∀ e, ¬(s.entry e).holdsWord w.toNat)
          ∧ (s.disjoint → ∀ e, (s.entry e).holdsWord w.toNat → s.lookup w = some e))
    ∧ ∀ (a : Access) (c : Content),
        (∀ k, k ∈ a.objectBytes c ↔
            k < c.length ∧ ∃ l, l < 4 ∧ a.lanes.getLsbD l = true ∧ k = 4 * (a.word.toNat - c.base) + l)
          ∧ (a.touchesLead c = true ↔
              match c.order with
              | .any => False
              | .leadLow => 0 ∈ a.objectBytes c
              | .leadHigh => c.length - 1 ∈ a.objectBytes c)

/-- A port B access with no enabled lane is answered OK at once, a read with 0, and nothing else changes. -/
def Obligations.NoEnabledLaneAnsweredAtOnce : Prop :=
  ∀ (word : WordAddr) (isWrite : Bool) (data : Word) (s : State),
    s.takesArrival .b = true →
      exec (.portBArrival word isWrite 0 data) s =
        .next
          (State.drivePins
            (s.withArrival .b
              (.answered (captureB word isWrite 0 data s.ports.b.holdLimit)
                { error := false, data := if isWrite = true then none else some 0 })))

/-- A port A access of no direction is answered with error at once, and nothing else changes. A strobe sampled with ACSn
high, or while the port is not IDLE, not armed or in reset, is no arrival: only its level is noted (log 9). -/
def Obligations.NoDirectionRefusedAndNoArrivalNoted : Prop :=
  ∀ s : State,
    (∀ addr data, s.takesArrival .a = true →
      exec (.portAArrival true .both addr data) s =
        .next
          (State.drivePins
            (s.withArrival .a
              (.answered (captureA .both addr data s.ports.a.holdLimit) { error := true, data := some 0xffffffff }))))
      ∧ (∀ selected strobes addr data, selected = false ∨ s.takesArrival .a = false →
          exec (.portAArrival selected strobes addr data) s =
            .next (State.drivePins { s with ports := { s.ports with a := { s.ports.a with strobeLow := true } } }))
      ∧ ∀ word isWrite enabled data, s.takesArrival .b = false →
          exec (.portBArrival word isWrite enabled data) s =
            .next (State.drivePins { s with ports := { s.ports with b := { s.ports.b with strobeLow := true } } })

/-! ## Arrivals that meet no entry, a POISONED entry, or the plain path -/

/-- An access on a word of a POISONED entry is refused with error and POISON_REFUSED, whatever it is. -/
def Obligations.PoisonedEntryRefusesAccess : Prop :=
  ∀ (i : Instr) (s : State) (p : Port) (a : Access) (e : EntryIndex) c v r k,
    arrivalOf i s = some (p, a) → s.lookup a.word = some e → s.entry e = .poisoned c v r k →
      exec i s =
        .next
          (State.drivePins
            ((s.withArrival p (refusedWith a)).recorded .poisonRefused (some p) (some e) (some a.address) none))

/-- An access on a word of no installed extent takes the plain path: it is HELD with cause MEMORY and asks for its
single-word transfer. So do, on a live entry, padding-only accesses and accesses under a THROUGH policy: a read under
THROUGH only while the port holds no QUEUED or COMMITTING record there, a write under THROUGH only from a port in writers.
(A port that holds a snapshot on the entry loses it first: OwnWriteDiscardsOwnSnapshot.) -/
def Obligations.PlainPathAsksForOneWord : Prop :=
  ∀ (i : Instr) (s : State) (p : Port) (a : Access) (entry : Option EntryIndex),
    arrivalOf i s = some (p, a) → s.lookup a.word = entry →
      (entry = none
        ∨ ∃ e c d, entry = some e ∧ s.serves e c d = true
            ∧ (if a.direction = .write then
                s.snapshotOn p e = none ∧ (a.objectBytes c = [] ∨ (c.allows p = true ∧ c.writePolicy = .through))
              else a.objectBytes c = [] ∨ (s.ownsCommit p e = false ∧ c.readPolicy = .through))) →
        exec i s =
          .next
            (State.drivePins
              ((s.withArrival p (heldAs a .memory entry)).withWaiting p
                (some
                  { kind := if a.direction = .write then .singleWrite else .singleRead
                    first := a.word
                    length := 1
                    writes := if a.direction = .write then [{ data := a.data, lanes := a.lanes }] else []
                    purpose := .plain p a.address entry })))

/-! ## Reads of objects -/

/-- A read of object bytes by a port with a QUEUED or COMMITTING record on the entry is held with cause OWN_COMMIT, under
both read policies. -/
def Obligations.OwnCommitHoldsRead : Prop :=
  ∀ (i : Instr) (s : State) (p : Port) (a : Access) (e : EntryIndex) (c : Content) (d : Bool),
    arrivalOf i s = some (p, a) → s.lookup a.word = some e → s.serves e c d = true →
      a.direction ≠ .write → a.objectBytes c ≠ [] → s.ownsCommit p e = true →
        exec i s = .next (State.drivePins (s.withArrival p (heldAs a .ownCommit (some e))))

/-- A read that would open a snapshot is held with cause DRAIN on a DRAINING entry, with cause SLOT where the port's four
slots are in use, and else takes a slot, raises the user count and asks for the fill of the whole extent. -/
def Obligations.OpeningReadTakesSlot : Prop :=
  ∀ (i : Instr) (s : State) (p : Port) (a : Access) (e : EntryIndex) (c : Content) (d : Bool),
    arrivalOf i s = some (p, a) → s.lookup a.word = some e → s.serves e c d = true →
      a.direction ≠ .write → a.objectBytes c ≠ [] → s.ownsCommit p e = false → c.readPolicy = .snapshot →
        s.snapshotOn p e = none → a.opens c = true →
          (d = true → exec i s = .next (State.drivePins (s.withArrival p (heldAs a .drain (some e)))))
            ∧ (d = false → 4 ≤ (s.snaps.get p).length →
                exec i s = .next (State.drivePins (s.withArrival p (heldAs a .slot (some e)))))
            ∧ ∀ v u, s.entry e = .active c v u → (s.snaps.get p).length < 4 →
                exec i s =
                  .next
                    (State.drivePins
                      ((((s.withArrival p (heldAs a .memory (some e))).withSnaps p
                        (s.snaps.get p ++ [{ entry := e, state := .filling }])).withEntry e
                          (.active c v (u + 1))).withWaiting p
                            (some
                              { kind := .burstRead, first := BitVec.ofNat 20 c.base, length := c.extent,
                                writes := [], purpose := .fill p a.address e })))

/-- A read served from the port's OPEN snapshot is answered with the snapshot's word, and the bytes it touches join the
coverage; the read that completes the coverage frees the slot and takes the user away, and where that was the last user of a
DRAINING entry the replacement installs with ENTRY_INSTALLED (R146). The answer is
the data word at the position of the accessed word (R53), the coverage becomes its union with the object bytes touched (R51,
R52), and it is full when it holds every object byte (R54). -/
def Obligations.SnapshotServesReadFromItsData : Prop :=
  (∀ data c a w, data[a.word.toNat - c.base]? = some w → snapshotWord data c a = w)
    ∧ (∀ coverage more k, k ∈ cover coverage more ↔ k < 32 ∧ (k ∈ coverage ∨ k ∈ more))
    ∧ (∀ (c : Content) coverage, c.covered coverage = true ↔ ∀ k, k < c.length → k ∈ coverage)
    ∧ ∀ (i : Instr) (s : State) (p : Port) (a : Access) (e : EntryIndex) (c : Content) (d : Bool) (x : Snapshot)
      (data : List Word) (coverage : List Nat) (timer : Timer),
      arrivalOf i s = some (p, a) → s.lookup a.word = some e → s.serves e c d = true →
        a.direction ≠ .write → a.objectBytes c ≠ [] → s.ownsCommit p e = false → c.readPolicy = .snapshot →
          s.snapshotOn p e = some x → x.state = .opened data coverage timer → a.restarts c coverage = false →
            (c.covered (cover coverage (a.objectBytes c)) = false →
              exec i s =
                .next
                  (State.drivePins
                    ((s.withArrival p
                      (.answered a { error := false, data := some (snapshotWord data c a) })).withSnaps p
                        ((s.snaps.get p).map (withCoverage e (cover coverage (a.objectBytes c)))))))
              ∧ (c.covered (cover coverage (a.objectBytes c)) = true → s.noFillWaits p e = true →
                  s.leavesQuietly e = true →
                    exec i s =
                      .next
                        (State.drivePins
                          (((s.withArrival p
                            (.answered a { error := false, data := some (snapshotWord data c a) })).withSnaps p
                              ((s.snaps.get p).eraseP fun y => y.entry == e)).userLeft e)))

/-- A read that restarts the port's OPEN snapshot discards it. On an ACTIVE entry it opens again in the same slot and asks
for a new fill, the user count ending as it was; on a DRAINING entry with other users it is held with cause DRAIN; where its
snapshot was the last user, the replacement installs and the read is classified again against it: on no entry it goes plain,
on the new content it may open (R146). -/
def Obligations.RestartingReadDiscardsSnapshot : Prop :=
  ∀ (i : Instr) (s : State) (p : Port) (a : Access) (e : EntryIndex) (c : Content) (d : Bool) (x : Snapshot)
    (data : List Word) (coverage : List Nat) (timer : Timer) (v : BitVec 16) (u : Nat),
    arrivalOf i s = some (p, a) → s.lookup a.word = some e → s.serves e c d = true →
      a.direction ≠ .write → a.objectBytes c ≠ [] → s.ownsCommit p e = false → c.readPolicy = .snapshot →
        s.snapshotOn p e = some x → x.state = .opened data coverage timer → a.restarts c coverage = true →
          s.noFillWaits p e = true →
          (s.entry e = .active c v u → 1 ≤ u →
            exec i s =
              .next
                (State.drivePins
                  (((s.withArrival p (heldAs a .memory (some e))).withSnaps p
                    ((s.snaps.get p).eraseP (fun y => y.entry == e) ++ [{ entry := e, state := .filling }])).withWaiting
                      p (some (fillTransfer p a e c)))))
            ∧ (∀ r, s.entry e = .draining c v u r → 2 ≤ u →
                exec i s =
                  .next
                    (State.drivePins
                      (((s.withArrival p (heldAs a .drain (some e))).withSnaps p
                        ((s.snaps.get p).eraseP fun y => y.entry == e)).withEntry e (.draining c v (u - 1) r))))
            ∧ ∀ r, s.entry e = .draining c v u r → u ≤ 1 → s.mem.waiting.get p = none →
                s.unconcerned e (some c) r.content? = true →
                  let bare := ((s.withArrival p .idle).withSnaps p
                    ((s.snaps.get p).eraseP fun y => y.entry == e)).installedAs e r.installed
                  let noted := bare.recorded .entryInstalled none (some e) none (some r.detail)
                  (bare.lookup a.word = none →
                    exec i s = .next (State.drivePins (noted.asksPlain p (arrival a) none)))
                    ∧ ∀ d, r = .content d → bare.lookup a.word = some e → bare.readOpens p a e d = true →
                        exec i s = .next (State.drivePins (noted.opensSnapshot p (arrival a) e d 0 0))

/-! ## Writes of objects -/

/-- A write in the extent of a live entry discards its own port's snapshot there first, whatever becomes of it: with other
users or on an ACTIVE entry, the command acts as on the state without that snapshot and its user. Where the snapshot was the
last user of a DRAINING entry, the replacement installs: a write refused as WRITE_DENIED stays refused, in one event with the
install (log 6 for the order of the two records), and any other is classified again against the new table (R146). -/
def Obligations.OwnWriteDiscardsOwnSnapshot : Prop :=
  ∀ (i : Instr) (s : State) (p : Port) (a : Access) (e : EntryIndex),
    arrivalOf i s = some (p, a) → a.direction = .write → s.lookup a.word = some e →
      s.snapshotCount p e = 1 → s.noFillWaits p e = true →
        (s.keepsContent e = true →
          exec i s = exec i ((s.withSnaps p ((s.snaps.get p).eraseP fun y => y.entry == e)).userLeft e))
          ∧ ∀ c v u r, s.entry e = .draining c v u r → u ≤ 1 → s.mem.waiting.get p = none →
              s.unconcerned e (some c) r.content? = true →
                let bare := ((s.withArrival p .idle).withSnaps p
                  ((s.snaps.get p).eraseP fun y => y.entry == e)).installedAs e r.installed
                let noted := bare.recorded .entryInstalled none (some e) none (some r.detail)
                (a.objectBytes c ≠ [] → c.allows p = false →
                  ∃ t, exec i s = .next t
                    ∧ (bare.withPort p (refusedWith a)).recordedEither
                        (note .writeDenied (some p) (some e) (some a.address) none)
                        (note .entryInstalled none (some e) none (some r.detail)) t)
                  ∧ (a.objectBytes c = [] ∨ c.allows p = true →
                      (bare.lookup a.word = none →
                        exec i s = .next (State.drivePins (noted.asksPlain p (arrival a) none)))
                        ∧ ∀ d, r = .content d → bare.lookup a.word = some e → bare.writeOpens p a e d = true →
                            exec i s = .next (State.drivePins (noted.opensRecord p (arrival a) e d 0 0)))

/-- A write of object bytes by a port not in writers is refused with error and WRITE_DENIED. -/
def Obligations.WriterNotNamedIsDenied : Prop :=
  ∀ (i : Instr) (s : State) (p : Port) (a : Access) (e : EntryIndex) (c : Content) (d : Bool),
    arrivalOf i s = some (p, a) → s.lookup a.word = some e → s.serves e c d = true →
      a.direction = .write → a.objectBytes c ≠ [] → s.snapshotOn p e = none → c.allows p = false →
        exec i s =
          .next
            (State.drivePins
              ((s.withArrival p (refusedWith a)).recorded .writeDenied (some p) (some e) (some a.address) none))

/-- A write that would open a record is held with cause DRAIN on a DRAINING entry, with cause CLAIM where the other port
holds the claim, with cause RECORD where the port's four records are in use; else it opens a record with its bytes, takes
the claim of an EXCLUSIVE entry, and is answered OK. A record opened complete joins the commit queue. -/
def Obligations.OpeningWriteTakesRecord : Prop :=
  ∀ (i : Instr) (s : State) (p : Port) (a : Access) (e : EntryIndex) (c : Content) (d : Bool),
    arrivalOf i s = some (p, a) → s.lookup a.word = some e → s.serves e c d = true →
      a.direction = .write → a.objectBytes c ≠ [] → s.snapshotOn p e = none → c.allows p = true →
        c.writePolicy = .staged → s.recordOn p e = none → a.opens c = true →
          (d = true → exec i s = .next (State.drivePins (s.withArrival p (heldAs a .drain (some e)))))
            ∧ (d = false → c.claim = .exclusive → s.claims[e] = some p.other →
                exec i s = .next (State.drivePins (s.withArrival p (heldAs a .claim (some e)))))
            ∧ (d = false → ¬(c.claim = .exclusive ∧ s.claims[e] = some p.other) → 4 ≤ s.recordsInUse p →
                exec i s = .next (State.drivePins (s.withArrival p (heldAs a .record (some e)))))
            ∧ ∀ v u, s.entry e = .active c v u → ¬(c.claim = .exclusive ∧ s.claims[e] = some p.other) →
                s.recordsInUse p < 4 →
                  let bytes := enterBytes (List.replicate (4 * c.extent) none) c a
                  let opened := (s.withArrival p (writtenOk a)).withEntry e (.active c v (u + 1))
                  let claimed := if c.claim = .exclusive then opened.withClaim e (some p) else opened
                  exec i s =
                    .next
                      (State.drivePins
                        (if c.written bytes = true then
                          claimed.queued { port := p, entry := e, bytes := bytes } c
                        else
                          claimed.withRecs p
                            (s.recs.get p
                              ++ [{ entry := e, bytes := bytes,
                                    timer := { limit := c.stagingLimit, counted := 0 } }])))

/-- A write entered into the port's OPEN record is answered OK with its bytes in the record; the write that fills the mask
sends the record to the tail of the commit queue. Entering puts lane l of the write's data into extent byte
4 × (word − base) + l for each enabled lane, and leaves every other extent byte as it was (R71); the mask is full when it
holds every object byte (R78). -/
def Obligations.WriteEntersOpenRecord : Prop :=
  (∀ bytes c a, (enterBytes bytes c a).length = bytes.length
      ∧ ∀ k, k < bytes.length →
          (∀ l, l < 4 → a.lanes.getLsbD l = true → k = 4 * (a.word.toNat - c.base) + l →
              (enterBytes bytes c a)[k]? = some (some (a.data.extractLsb' (8 * l) 8)))
            ∧ ((∀ l, l < 4 → a.lanes.getLsbD l = true → k ≠ 4 * (a.word.toNat - c.base) + l) →
                (enterBytes bytes c a)[k]? = bytes[k]?))
    ∧ (∀ (c : Content) (bytes : List (Option Byte)),
        c.written bytes = true ↔ ∀ k, k < c.length → ∃ b, bytes[k]? = some (some b))
    ∧ ∀ (i : Instr) (s : State) (p : Port) (a : Access) (e : EntryIndex) (c : Content) (d : Bool) (r : OpenRecord),
      arrivalOf i s = some (p, a) → s.lookup a.word = some e → s.serves e c d = true →
        a.direction = .write → a.objectBytes c ≠ [] → s.snapshotOn p e = none → c.allows p = true →
          c.writePolicy = .staged → s.recordOn p e = some r → a.touchesLead c = false →
            exec i s =
              .next
                (State.drivePins
                  (if c.written (enterBytes r.bytes c a) = true then
                    ((s.withArrival p (writtenOk a)).withRecs p ((s.recs.get p).eraseP fun y => y.entry == e)).queued
                      { port := p, entry := e, bytes := enterBytes r.bytes c a } c
                  else
                    (s.withArrival p (writtenOk a)).withRecs p
                      ((s.recs.get p).map fun y =>
                        if y.entry = e then { y with bytes := enterBytes r.bytes c a } else y)))

/-- A write of the lead byte while the port holds an OPEN record restarts it, with STAGE_RESTARTED. On an ACTIVE entry a
new record opens with the write's bytes and the claim stays; on a DRAINING entry with other users the write is held with
cause DRAIN, and the claim is released if no record backs it; where the record was the last user, the replacement installs
and the write is classified again against it (R146; log 6 for the order of the two records). -/
def Obligations.LeadByteRestartsRecord : Prop :=
  ∀ (i : Instr) (s : State) (p : Port) (a : Access) (e : EntryIndex) (c : Content) (d : Bool) (r : OpenRecord)
    (v : BitVec 16) (u : Nat),
    arrivalOf i s = some (p, a) → s.lookup a.word = some e → s.serves e c d = true →
      a.direction = .write → a.objectBytes c ≠ [] → s.snapshotOn p e = none → c.allows p = true →
        c.writePolicy = .staged → s.recordOn p e = some r → s.openCount p e = 1 → a.touchesLead c = true →
          (s.entry e = .active c v u → 1 ≤ u →
            let bytes := enterBytes (List.replicate (4 * c.extent) none) c a
            let answered := (s.withArrival p (writtenOk a)).recorded .stageRestarted (some p) (some e) (some a.address)
              (some (maskCount r.bytes))
            let claimed := if c.claim = .exclusive then answered.withClaim e (some p) else answered
            let others := (s.recs.get p).eraseP fun y => y.entry == e
            exec i s =
              .next
                (State.drivePins
                  (if c.written bytes = true then
                    (claimed.withRecs p others).queued { port := p, entry := e, bytes := bytes } c
                  else
                    claimed.withRecs p
                      (others
                        ++ [{ entry := e, bytes := bytes, timer := { limit := c.stagingLimit, counted := 0 } }]))))
            ∧ (∀ q, s.entry e = .draining c v u q → 2 ≤ u →
                s.nobodyHeld (fun h => h.cause == .claim && h.entry == some e) = true →
                  exec i s =
                    .next
                      (State.drivePins
                        (((((s.withArrival p (heldAs a .drain (some e))).recorded .stageRestarted (some p) (some e)
                          (some a.address) (some (maskCount r.bytes))).withRecs p
                            ((s.recs.get p).eraseP fun y => y.entry == e)).claimChecked p e).withEntry e
                              (.draining c v (u - 1) q))))
            ∧ ∀ q, s.entry e = .draining c v u q → u ≤ 1 → s.mem.waiting.get p = none →
                s.nobodyHeld (fun h => h.cause == .claim && h.entry == some e) = true →
                  s.unconcerned e (some c) q.content? = true →
                    let bare := ((s.withArrival p .idle).withRecs p
                      ((s.recs.get p).eraseP fun y => y.entry == e)).installedAs e q.installed
                    let x := note .stageRestarted (some p) (some e) (some a.address) (some (maskCount r.bytes))
                    let y := note .entryInstalled none (some e) none (some q.detail)
                    (bare.lookup a.word = none →
                      ∃ t, exec i s = .next t ∧ (bare.asksPlain p (arrival a) none).recordedEither x y t)
                      ∧ ∀ d, q = .content d → bare.lookup a.word = some e → bare.writeOpens p a e d = true →
                          ∃ t, exec i s = .next t ∧ (bare.opensRecord p (arrival a) e d 0 0).recordedEither x y t

/-- A stray read or write (one that does not open, met by no snapshot or no OPEN record of its port) is recorded, and goes
plain under PASS or is refused with error under FAULT. -/
def Obligations.StrayAccessFollowsStrayPolicy : Prop :=
  ∀ (i : Instr) (s : State) (p : Port) (a : Access) (e : EntryIndex) (c : Content) (d : Bool),
    arrivalOf i s = some (p, a) → s.lookup a.word = some e → s.serves e c d = true →
      a.objectBytes c ≠ [] → a.opens c = false → s.snapshotOn p e = none →
        (if a.direction = .write then
          c.allows p = true ∧ c.writePolicy = .staged ∧ s.recordOn p e = none
        else s.ownsCommit p e = false ∧ c.readPolicy = .snapshot) →
          let kind : EventKind := if a.direction = .write then .strayWrite else .strayRead
          (c.stray = .pass →
            exec i s =
              .next
                (State.drivePins
                  (((s.withArrival p (heldAs a .memory (some e))).withWaiting p
                    (some (plainTransfer p a (some e)))).recorded kind (some p) (some e) (some a.address) none)))
            ∧ (c.stray = .fault →
                exec i s =
                  .next
                    (State.drivePins
                      ((s.withArrival p (refusedWith a)).recorded kind (some p) (some e) (some a.address) none)))

/-! ## The end of a cycle, ticks and expiries -/

/-- What the sampling of released strobes does to a port in each state: the cycle of an answered access ends, an access not
yet answered is marked released, and the port is armed once no strobe is asserted. -/
def Obligations.StrobeReleaseEndsOrMarks : Prop :=
  ∀ (sample : StrobeSample) (s : State),
    let p := sampledPort sample
    let x := s.ports.get p
    ((s.inReset = true ∨ x.state = .inReset) →
      exec (.strobeRelease sample) s =
        .next (State.drivePins { s with ports := s.ports.set p { x with strobeLow := stillLow sample } }))
      ∧ (s.inReset = false → x.state ≠ .inReset →
          exec (.strobeRelease sample) s =
            .next
              (State.drivePins
                { s with
                  ports := s.ports.set p
                    { x with
                      strobeLow := stillLow sample
                      armed := x.armed || !stillLow sample
                      state :=
                        match x.state with
                        | .answered a ans =>
                          if strobeReleased a.direction sample = true then .idle else .answered a ans
                        | .held h =>
                          .held { h with released := h.released || strobeReleased h.access.direction sample }
                        | .inTransfer r =>
                          .inTransfer { r with released := r.released || strobeReleased r.access.direction sample }
                        | .idle => .idle
                        | .inReset => .inReset } }))

/-- A tick is counted once by every running timer and ends the tick period under way; with no timer overdue it changes
nothing else. While RESETn is asserted there is none. That overdue timers expire first is the model's (log 4), and so is the
mark for a command that follows it directly (log 21). -/
def Obligations.TickCountedByRunningTimers : Prop :=
  ∀ s : State,
    let counted : Snapshot → Snapshot := fun x =>
      match x.state with
      | .opened data coverage t => { x with state := .opened data coverage { t with counted := t.counted + 1 } }
      | .filling => x
    let held : PortState → PortState := fun x =>
      match x with
      | .held h => .held { h with timer := { h.timer with counted := h.timer.counted + 1 } }
      | x => x
    (s.inReset = true → exec .tick s = .next s)
      ∧ (s.inReset = false → s.dues = [] →
          exec .tick s =
            .next
              { s with
                snaps := ⟨s.snaps.a.map counted, s.snaps.b.map counted⟩
                recs :=
                  ⟨s.recs.a.map fun r => { r with timer := { r.timer with counted := r.timer.counted + 1 } },
                   s.recs.b.map fun r => { r with timer := { r.timer with counted := r.timer.counted + 1 } }⟩
                ports :=
                  ⟨{ s.ports.a with state := held s.ports.a.state }, { s.ports.b with state := held s.ports.b.state }⟩
                mem :=
                  { s.mem with
                    inFlight := s.mem.inFlight.map fun f =>
                      { f with timer := { f.timer with counted := f.timer.counted + 1 } } }
                time := { setting := s.time.setting, underWay := s.time.setting, count := 0, ticked := true } })

/-- The expiry of an OPEN snapshot's limit frees the slot, takes the user away and records SNAP_EXPIRED with the bytes
delivered; a timer that is not due does not expire (log 5). Where the user was the last on a DRAINING entry, the
replacement installs in the same event, its record entering before or after (log 6); an access of the other port that the
install concerns is classified again against the new table (R145): on no entry it goes plain, on the new content it may
open a snapshot or a record. -/
def Obligations.SnapshotLimitExpiryFreesSlot : Prop :=
  ∀ (p : Port) (e : EntryIndex) (s : State),
    ((∀ x, s.snapshotOn p e = some x → x.due = false) →
      exec (.snapshotLimitExpiry p e) s = .next s.drivePins)
      ∧ ∀ x, s.snapshotOn p e = some x → x.due = true → s.noFillWaits p e = true →
          s.holds p (fun h => h.cause == .slot) = false →
            (s.keepsContent e = true →
              exec (.snapshotLimitExpiry p e) s =
                .next
                  (State.drivePins
                    (((s.recorded .snapExpired (some p) (some e) none (some x.delivered)).withSnaps p
                      ((s.snaps.get p).eraseP fun y => y.entry == e)).userLeft e)))
              ∧ ∀ c v u r, s.entry e = .draining c v u r → u ≤ 1 →
                  let x := note .snapExpired (some p) (some e) none (some x.delivered)
                  let y := note .entryInstalled none (some e) none (some r.detail)
                  let bare := (s.withSnaps p ((s.snaps.get p).eraseP fun y => y.entry == e)).installedAs e r.installed
                  (s.unconcerned e (some c) r.content? = true →
                    ∃ t, exec (.snapshotLimitExpiry p e) s = .next t ∧ bare.recordedEither x y t)
                    ∧ ∀ h, (s.ports.get p.other).state = .held h → s.noFillAsked p.other = true →
                        h.concerned e (some c) r.content? = true → (∀ g, (s.ports.get p).state ≠ .held g) →
                          let ended := bare.withWaiting p.other none
                          (bare.lookup h.access.word = none →
                            ∃ t, exec (.snapshotLimitExpiry p e) s = .next t
                              ∧ (ended.asksPlain p.other h none).recordedEither x y t)
                            ∧ ∀ d, r = .content d → bare.lookup h.access.word = some e →
                                (bare.readOpens p.other h.access e d = true →
                                  ∃ t, exec (.snapshotLimitExpiry p e) s = .next t
                                    ∧ (ended.opensSnapshot p.other h e d 0 0).recordedEither x y t)
                                  ∧ (bare.writeOpens p.other h.access e d = true →
                                      ∃ t, exec (.snapshotLimitExpiry p e) s = .next t
                                        ∧ (ended.opensRecord p.other h e d 0 0).recordedEither x y t)

/-- The expiry of an OPEN record's limit discards the record, releases a claim it alone backed, takes the user away and
records STAGE_EXPIRED with the bytes staged; a timer that is not due does not expire (log 5). Where the user was the last on a
DRAINING entry, the replacement installs in the same event (log 6 for the order of the two records). -/
def Obligations.StagingLimitExpiryDiscardsRecord : Prop :=
  ∀ (p : Port) (e : EntryIndex) (s : State),
    ((∀ r, s.recordOn p e = some r → r.timer.due = false) →
      exec (.stagingLimitExpiry p e) s = .next s.drivePins)
      ∧ ∀ r, s.recordOn p e = some r → r.timer.due = true → s.holds p (fun h => h.cause == .record) = false →
          s.nobodyHeld (fun h => h.cause == .claim && h.entry == some e) = true →
            let freed := s.withRecs p ((s.recs.get p).eraseP fun y => y.entry == e)
            (s.keepsContent e = true →
              exec (.stagingLimitExpiry p e) s =
                .next
                  (State.drivePins
                    (((freed.recorded .stageExpired (some p) (some e) none (some (maskCount r.bytes))).claimChecked
                      p e).userLeft e)))
              ∧ ∀ c v u q, s.entry e = .draining c v u q → u ≤ 1 → s.unconcerned e (some c) q.content? = true →
                  ∃ t, exec (.stagingLimitExpiry p e) s = .next t
                    ∧ (freed.installedAs e q.installed).recordedEither
                        (note .stageExpired (some p) (some e) none (some (maskCount r.bytes)))
                        (note .entryInstalled none (some e) none (some q.detail)) t

/-- The expiry of a HELD access's limit answers it with error (or drops it when released), records HOLD_EXPIRED with the
cause, and withdraws its request, with the FILLING slot of its own fill; where that was the last user of a DRAINING entry, the
replacement installs in the same event (R146; log 6 for the order of the two records). A timer that is not due does not
expire (log 5). -/
def Obligations.HoldLimitExpiryWithdrawsAccess : Prop :=
  ∀ (p : Port) (s : State),
    (s.holds p (fun h => h.timer.due) = false → exec (.holdLimitExpiry p) s = .next s.drivePins)
      ∧ ∀ h, (s.ports.get p).state = .held h → h.timer.due = true →
          let x := note .holdExpired (some p) h.entry (some h.access.address) (some h.cause.number)
          let gone := { (s.refuses p h).withWaiting p none with events := s.events.enter x }
          ((∀ t q x f, s.mem.waiting.get p = some t → t.purpose ≠ .fill q x f) →
            exec (.holdLimitExpiry p) s = .next (State.drivePins gone))
            ∧ ∀ t q addr e y, s.mem.waiting.get p = some t → t.purpose = .fill q addr e → s.snapshotOn p e = some y →
                (s.keepsContent e = true →
                  exec (.holdLimitExpiry p) s =
                    .next
                      (State.drivePins
                        ((gone.withSnaps p ((s.snaps.get p).eraseP fun z => z.entry == e)).userLeft e)))
                  ∧ ∀ c v u r, s.entry e = .draining c v u r → u ≤ 1 →
                      s.holds p.other (fun g => g.concerned e (some c) r.content?) = false →
                        ∃ t, exec (.holdLimitExpiry p) s = .next t
                          ∧ ((((s.refuses p h).withWaiting p none).withSnaps p
                              ((s.snaps.get p).eraseP fun z => z.entry == e)).installedAs e r.installed).recordedEither x
                                (note .entryInstalled none (some e) none (some r.detail)) t

/-- The freeing of a slot lets the port's read held with cause SLOT go on: it is classified again and opens its snapshot,
its hold limit running on from its arrival. -/
def Obligations.FreedSlotServesHeldRead : Prop :=
  ∀ (p : Port) (e f : EntryIndex) (s : State) (x : Snapshot) (h : Held) (c d : Content) (v w : BitVec 16) (u m : Nat),
    s.snapshotOn p e = some x → x.due = true → s.entry e = .active c v u →
      (s.ports.get p).state = .held h → h.cause = .slot → s.mem.waiting.get p = none → (s.snaps.get p).length = 4 →
        f ≠ e → s.lookup h.access.word = some f → s.entry f = .active d w m → s.snapshotOn p f = none →
          h.access.direction ≠ .write → h.access.objectBytes d ≠ [] → s.ownsCommit p f = false →
            d.readPolicy = .snapshot → h.access.opens d = true →
              exec (.snapshotLimitExpiry p e) s =
                .next
                  (State.drivePins
                    (((((s.recorded .snapExpired (some p) (some e) none (some x.delivered)).withSnaps p
                      ((s.snaps.get p).eraseP (fun y => y.entry == e) ++ [{ entry := f, state := .filling }])).withEntry e
                        (.active c v (u - 1))).withEntry f (.active d w (m + 1))).withWaiting p
                          (some (fillTransfer p h.access f d)) |>.withPort p
                            (.held { h with cause := .memory, entry := some f })))

/-- The release of a claim by the expiry of the record that alone backed it lets the other port's write held with cause
CLAIM go on: it is classified again, takes the claim and a record of its own port, and is answered OK (or dropped when
released). The user count ends as it was. -/
def Obligations.ReleasedClaimServesHeldWrite : Prop :=
  ∀ (p : Port) (e : EntryIndex) (s : State) (r : OpenRecord) (h : Held) (c : Content) (v : BitVec 16) (u : Nat),
    s.recordOn p e = some r → r.timer.due = true → s.openCount p e = 1 → s.ownsCommit p e = false →
      s.claims[e] = some p → s.entry e = .active c v u → 1 ≤ u →
        s.holds p (fun h => h.cause == .record || h.cause == .claim) = false →
          (s.ports.get p.other).state = .held h → h.cause = .claim → h.entry = some e →
            s.mem.waiting.get p.other = none → s.lookup h.access.word = some e → h.access.direction = .write →
              h.access.objectBytes c ≠ [] → s.snapshotOn p.other e = none → c.allows p.other = true →
                c.writePolicy = .staged → c.claim = .exclusive → s.recordOn p.other e = none →
                  h.access.opens c = true → s.recordsInUse p.other < 4 →
                    let bytes := enterBytes (List.replicate (4 * c.extent) none) c h.access
                    let freed := (s.recorded .stageExpired (some p) (some e) none (some (maskCount r.bytes))).withRecs p
                      ((s.recs.get p).eraseP fun y => y.entry == e)
                    let taken := (freed.withClaim e (some p.other)).withPort p.other
                      (if h.released = true then .idle else writtenOk h.access)
                    exec (.stagingLimitExpiry p e) s =
                      .next
                        (State.drivePins
                          (if c.written bytes = true then
                            taken.queued { port := p.other, entry := e, bytes := bytes } c
                          else
                            taken.withRecs p.other
                              (s.recs.get p.other
                                ++ [{ entry := e, bytes := bytes,
                                      timer := { limit := c.stagingLimit, counted := 0 } }])))

/-! ## The memory port -/

/-- The arbiter chooses the first waiting requester in the fixed cycle after the last one granted. Idle, it starts the first
attempt of that request with an allowance of 1 plus the retry limit, and a port's held access is IN_TRANSFER; where a
transfer is in flight or nothing waits, nothing is granted (log 10). -/
def Obligations.GrantStartsFirstInTheCycle : Prop :=
  (∀ (m : MemoryPort),
    let ask := fun r => (m.request r).map fun t => (r, t)
    m.next =
      match m.lastGranted with
      | .port .a => (ask (.port .b)).or ((ask .commit).or (ask (.port .a)))
      | .port .b => (ask .commit).or ((ask (.port .a)).or (ask (.port .b)))
      | .commit => (ask (.port .a)).or ((ask (.port .b)).or (ask .commit)))
    ∧ ∀ s : State,
    (s.mem.inFlight ≠ none ∨ s.mem.next = none → exec .grant s = .next s.drivePins)
      ∧ ∀ r t, s.mem.inFlight = none → s.mem.next = some (r, t) →
          let f : InFlight :=
            { transfer := t, allowance := 1 + s.mem.retryLimit, attempts := 1, taken := [],
              timer := { limit := 16, counted := 0 }, orphan := false }
          match r with
          | .commit =>
            exec .grant s =
              .next
                (State.drivePins
                  { s with mem := { s.mem with inFlight := some f, lastGranted := .commit, waitingCommit := none } })
          | .port p =>
            ∀ h, (s.ports.get p).state = .held h →
              exec .grant s =
                .next
                  (State.drivePins
                    ((s.withPort p
                      (.inTransfer { access := h.access, released := h.released, flushed := false })).withWaiting p
                        none |> fun g => { g with mem := { g.mem with inFlight := some f, lastGranted := .port p } }))

/-- A good read word that is not the last is kept with its status; strobes that meet no read attempt, or no write attempt,
are ignored (R96; log 10), and so is every strobe sampled with MREQn released, as an answer is that comes together with an
expiry taken first (R99; log 31): nothing changes but that a tick before it is past (log 21). -/
def Obligations.GoodReadWordIsKept : Prop :=
  ∀ (data : Word) (mst : BitVec 2) (s : State),
    (∀ f, s.mem.inFlight = some f → f.transfer.isRead = true → mst.toNat ≤ 1 →
        f.taken.length + 1 < f.transfer.length →
          exec (.memoryReadWord data ⟨true, mst⟩) s =
            .next
              (State.drivePins
                (s.withInFlight
                  (some { f with taken := f.taken ++ [(data, if mst = 0 then .good else .fixed)] }))))
      ∧ ((∀ f, s.mem.inFlight = some f → f.transfer.isRead = false) →
          exec (.memoryReadWord data ⟨true, mst⟩) s = .next s.pastTick)
      ∧ ((∀ f, s.mem.inFlight = some f → f.transfer.isRead = true) →
          exec (.memoryWriteAnswer ⟨true, mst⟩) s = .next s.pastTick)
      ∧ exec (.memoryReadWord data ⟨false, mst⟩) s = .next s.pastTick
      ∧ exec (.memoryWriteAnswer ⟨false, mst⟩) s = .next s.pastTick

/-- After a failed attempt (a BAD word, a FAIL answer, the expiry of the answer limit) the next is made at once, from the
first word, while the allowance lasts. An answer limit that is not due, or belongs to no attempt, does not expire
(log 5). On the pins an attempt presents its words in ascending order, each write word with its own address, data and
enables, and MREQn is released between two attempts (R96; the levels it leaves open are those of log 18). -/
def Obligations.FailedAttemptIsMadeAgainWhole : Prop :=
  ∀ s : State,
    (∀ (i : Instr) (f : InFlight),
      s.mem.inFlight = some f →
        ((∃ data mst, i = .memoryReadWord data ⟨true, mst⟩ ∧ f.transfer.isRead = true ∧ 2 ≤ mst.toNat)
          ∨ (∃ mst, i = .memoryWriteAnswer ⟨true, mst⟩ ∧ f.transfer.isRead = false ∧ 2 ≤ mst.toNat)
          ∨ (i = .memoryAnswerLimitExpiry ∧ f.timer.due = true)) →
          f.attempts < f.allowance →
            exec i s =
              .next
                (State.drivePins
                  (s.withInFlight
                    (some { f with attempts := f.attempts + 1, taken := [], timer := { limit := 16, counted := 0 } }))))
      ∧ ((∀ f, s.mem.inFlight = some f → f.timer.due = false) →
          exec .memoryAnswerLimitExpiry s = .next s.drivePins)
      ∧ ∀ f, s.mem.inFlight = some f → s.pinsDriven →
          let released : MemoryPins :=
            { mreqn := true, ma := none, mwrn := none, mlen := none, mben := 15, md := none }
          let read : MemoryPins :=
            { mreqn := false, ma := some f.transfer.first, mwrn := some true,
              mlen := some (BitVec.ofNat 3 (f.transfer.length - 1)), mben := 15, md := none }
          let presented :=
            if f.transfer.isRead = true then [read]
            else
              (List.range f.transfer.length).map fun k =>
                { read with
                  ma := some (BitVec.ofNat 20 (f.transfer.first.toNat + k))
                  mwrn := some false
                  mben := ~~~ ((f.transfer.writes[k]?.map WriteWord.lanes).getD 0)
                  md := f.transfer.writes[k]?.map WriteWord.data }
          s.pins.memory = if 2 ≤ f.attempts then released :: presented else presented

/-- The success of a plain transfer answers the access that asked for it: a read with the word, a write when memory
answers DONE; with error where a FLUSH has fixed that; RECOVERED after more than one attempt. The outcome of a transfer
whose access a port reset ended answers nothing. -/
def Obligations.PlainTransferSuccessAnswersAccess : Prop :=
  ∀ (i : Instr) (s : State) (f : InFlight) (p : Port) (addr : ByteAddr) (e : Option EntryIndex) (word : Word),
    s.mem.inFlight = some f → f.transfer.purpose = .plain p addr e →
      ((∃ mst, i = .memoryReadWord word ⟨true, mst⟩ ∧ mst.toNat ≤ 1 ∧ f.transfer.isRead = true ∧ f.taken = []
          ∧ f.transfer.length = 1)
        ∨ (∃ mst, i = .memoryWriteAnswer ⟨true, mst⟩ ∧ mst.toNat ≤ 1 ∧ f.transfer.isRead = false ∧ word = 0)) →
        let ended :=
          if 2 ≤ f.attempts then
            (s.withInFlight none).recorded .recovered (some p) e (some addr) (some f.attempts)
          else s.withInFlight none
        (f.orphan = true → exec i s = .next (State.drivePins ended))
          ∧ ∀ r, f.orphan = false → (s.ports.get p).state = .inTransfer r →
              exec i s =
                .next
                  (State.drivePins
                    (ended.withPort p
                      (if r.released = true then .idle
                      else if r.flushed = true then refusedWith r.access
                      else
                        .answered r.access
                          { error := false, data := if r.access.direction = .write then none else some word })))

/-- The failure of a transfer's last attempt, for a plain transfer: READ_FAILED or WRITE_FAILED, and an error answer to the
access that asked for it, if no port reset has ended it. -/
def Obligations.PlainTransferFailureAnswersWithError : Prop :=
  ∀ (i : Instr) (s : State) (f : InFlight) (p : Port) (addr : ByteAddr) (e : Option EntryIndex),
    s.mem.inFlight = some f → f.transfer.purpose = .plain p addr e → f.allowance ≤ f.attempts →
      ((∃ data mst, i = .memoryReadWord data ⟨true, mst⟩ ∧ f.transfer.isRead = true ∧ 2 ≤ mst.toNat)
        ∨ (∃ mst, i = .memoryWriteAnswer ⟨true, mst⟩ ∧ f.transfer.isRead = false ∧ 2 ≤ mst.toNat)
        ∨ (i = .memoryAnswerLimitExpiry ∧ f.timer.due = true)) →
        let ended :=
          (s.withInFlight none).recorded (if f.transfer.isRead = true then .readFailed else .writeFailed) (some p) e
            (some addr) (some f.attempts)
        (f.orphan = true → exec i s = .next (State.drivePins ended))
          ∧ ∀ r, f.orphan = false → (s.ports.get p).state = .inTransfer r →
              exec i s =
                .next (State.drivePins (ended.withPort p (if r.released = true then .idle else refusedWith r.access)))

/-- The success of a fill gives the FILLING snapshot the words of the one successful attempt, answers the opening read from
them, covers the bytes it touched and starts the limit; a coverage already full frees the slot at once, and where that was
the last user of a DRAINING entry the replacement installs in the same event (log 6 for the order of two records). The words
of a fill whose access a port reset or a FLUSH has ended are discarded: no answer after a port reset (R63, R123), an error
answer after a FLUSH (R64, R135). RECOVERED is recorded after more than one attempt all the same (R109). -/
def Obligations.FillSuccessOpensSnapshot : Prop :=
  ∀ (s : State) (f : InFlight) (p : Port) (addr : ByteAddr) (e : EntryIndex) (word : Word) (mst : BitVec 2),
    s.mem.inFlight = some f → f.transfer.purpose = .fill p addr e → f.transfer.isRead = true → mst.toNat ≤ 1 →
      f.transfer.length = f.taken.length + 1 →
        let bare := s.withInFlight none
        let recovered := note .recovered (some p) (some e) (some addr) (some f.attempts)
        let ended := if 2 ≤ f.attempts then { bare with events := s.events.enter recovered } else bare
        (f.orphan = true → exec (.memoryReadWord word ⟨true, mst⟩) s = .next (State.drivePins ended))
          ∧ ∀ r, f.orphan = false → (s.ports.get p).state = .inTransfer r →
              (r.flushed = true →
                exec (.memoryReadWord word ⟨true, mst⟩) s =
                  .next
                    (State.drivePins (ended.withPort p (if r.released = true then .idle else refusedWith r.access))))
                ∧ ∀ c d x, r.flushed = false → r.access.direction = .read → s.snapshotOn p e = some x →
                    s.serves e c d = true →
                      let words := f.taken.map Prod.fst ++ [word]
                      let answer : PortState :=
                        if r.released = true then .idle
                        else .answered r.access { error := false, data := some (snapshotWord words c r.access) }
                      let left := (s.snaps.get p).eraseP fun y => y.entry == e
                      (c.covered (r.access.objectBytes c) = false →
                        exec (.memoryReadWord word ⟨true, mst⟩) s =
                          .next
                            (State.drivePins
                              ((ended.withPort p answer).withSnaps p
                                ((s.snaps.get p).map fun y =>
                                  if y.entry = e then
                                    { y with
                                      state := .opened words (cover [] (r.access.objectBytes c))
                                        { limit := c.snapshotLimit, counted := 0 } }
                                  else y))))
                        ∧ (c.covered (r.access.objectBytes c) = true → s.noFillWaits p e = true →
                            s.leavesQuietly e = true →
                              (s.keepsContent e = true ∨ f.attempts < 2 →
                                exec (.memoryReadWord word ⟨true, mst⟩) s =
                                  .next (State.drivePins (((ended.withPort p answer).withSnaps p left).userLeft e)))
                                ∧ ∀ v u q, s.entry e = .draining c v u q → u ≤ 1 → 2 ≤ f.attempts →
                                    ∃ t, exec (.memoryReadWord word ⟨true, mst⟩) s = .next t
                                      ∧ (((bare.withPort p answer).withSnaps p left).installedAs e
                                          q.installed).recordedEither recovered
                                            (note .entryInstalled none (some e) none (some q.detail)) t)

/-- The failure of a fill's last attempt frees the slot, takes the user away, records READ_FAILED and answers the opening
read with error; where the user was the last of a DRAINING entry, the replacement installs in the same event (log 6 for the
order of the two records). Where a port reset has ended the access, READ_FAILED is recorded and nothing is answered; where a
FLUSH has, the read is answered with error and the slot was freed by the FLUSH (R111). -/
def Obligations.FillFailureFreesSlot : Prop :=
  ∀ (i : Instr) (s : State) (f : InFlight) (p : Port) (addr : ByteAddr) (e : EntryIndex),
    s.mem.inFlight = some f → f.transfer.purpose = .fill p addr e → f.transfer.isRead = true →
      f.allowance ≤ f.attempts →
      ((∃ data mst, i = .memoryReadWord data ⟨true, mst⟩ ∧ 2 ≤ mst.toNat)
        ∨ (i = .memoryAnswerLimitExpiry ∧ f.timer.due = true)) →
        let bare := s.withInFlight none
        let failed := note .readFailed (some p) (some e) (some addr) (some f.attempts)
        let ended := { bare with events := s.events.enter failed }
        (f.orphan = true → exec i s = .next (State.drivePins ended))
          ∧ ∀ r, f.orphan = false → (s.ports.get p).state = .inTransfer r →
              let answer : PortState := if r.released = true then .idle else refusedWith r.access
              let left := (s.snaps.get p).eraseP fun y => y.entry == e
              (r.flushed = true → exec i s = .next (State.drivePins (ended.withPort p answer)))
                ∧ ∀ x, r.flushed = false → s.snapshotOn p e = some x → s.noFillWaits p e = true →
                    (s.keepsContent e = true →
                      exec i s = .next (State.drivePins (((ended.withPort p answer).withSnaps p left).userLeft e)))
                      ∧ ∀ c v u q, s.entry e = .draining c v u q → u ≤ 1 →
                          s.unconcerned e (some c) q.content? = true →
                            ∃ t, exec i s = .next t
                              ∧ (((bare.withPort p answer).withSnaps p left).installedAs e q.installed).recordedEither
                                  failed (note .entryInstalled none (some e) none (some q.detail)) t

/-- A commit answered DONE frees the head's record, raises the version, takes the user away, releases a claim it alone
backed, and sends the next head's burst to the arbiter; RECOVERED is recorded after more than one attempt. Where the user was
the last of a DRAINING entry, the replacement installs at version 0 with ENTRY_INSTALLED (log 6 for the order of two
records). An access of the record's port held with cause RECORD, or with cause OWN_COMMIT on the entry when no other record
of the port is queued there, is classified again in the same event: it may open a snapshot or a record, and a read under
THROUGH goes plain. The burst of a record is the one R81 writes out (`Transfer.isBurstOf`). -/
def Obligations.CommitSuccessRaisesVersion : Prop :=
  (∀ (r : CommitRecord) (c : Content), (commitTransfer r c).isBurstOf r c)
    ∧ ∀ (s : State) (f : InFlight) (q : Port) (g : EntryIndex) (r : CommitRecord) (rest : List CommitRecord) (c : Content)
      (v : BitVec 16) (u : Nat) (mst : BitVec 2),
      s.mem.inFlight = some f → f.transfer.purpose = .commit q g → f.transfer.isRead = false → mst.toNat ≤ 1 →
        s.queue = r :: rest →
          let e := r.entry
          let recovered := note .recovered (some q) (some g) none (some f.attempts)
          let next := rest.head?.bind fun n => ((s.entry n.entry).content?).map (commitTransfer n)
          let freed : State :=
            { s with
              queue := rest
              mem := { s.mem with inFlight := none, waitingCommit := next.or s.mem.waitingCommit } }
          let ended := if 2 ≤ f.attempts then { freed with events := s.events.enter recovered } else freed
          let raised := (ended.claimChecked r.port e).withEntry e (.active c (v + 1) (u - 1))
          (s.nobodyHeld (fun h => h.cause != .memory) = true →
            (s.entry e = .active c v u → exec (.memoryWriteAnswer ⟨true, mst⟩) s = .next (State.drivePins raised))
              ∧ (∀ x, s.entry e = .draining c v u x → 2 ≤ u →
                  exec (.memoryWriteAnswer ⟨true, mst⟩) s =
                    .next (State.drivePins ((ended.claimChecked r.port e).withEntry e (.draining c (v + 1) (u - 1) x))))
              ∧ ∀ x, s.entry e = .draining c v u x → u ≤ 1 → s.unconcerned e (some c) x.content? = true →
                  let installed := note .entryInstalled none (some e) none (some x.detail)
                  (f.attempts < 2 →
                    exec (.memoryWriteAnswer ⟨true, mst⟩) s =
                      .next
                        (State.drivePins { freed.installedAs e x.installed with events := s.events.enter installed }))
                    ∧ (2 ≤ f.attempts →
                        ∃ t, exec (.memoryWriteAnswer ⟨true, mst⟩) s = .next t
                          ∧ (freed.installedAs e x.installed).recordedEither recovered installed t))
            ∧ ∀ h y d w m, s.entry e = .active c v u → (s.ports.get r.port).state = .held h →
                (h.cause = .record ∨ (h.cause = .ownCommit ∧ h.entry = some e ∧ raised.ownsCommit r.port e = false)) →
                  s.holds r.port.other (fun k => k.cause != .memory) = false → s.mem.waiting.get r.port = none →
                    raised.lookup h.access.word = some y → raised.entry y = .active d w m →
                      (raised.readOpens r.port h.access y d = true →
                        exec (.memoryWriteAnswer ⟨true, mst⟩) s =
                          .next (State.drivePins (raised.opensSnapshot r.port h y d w m)))
                        ∧ (raised.writeOpens r.port h.access y d = true →
                            exec (.memoryWriteAnswer ⟨true, mst⟩) s =
                              .next (State.drivePins (raised.opensRecord r.port h y d w m)))
                        ∧ (h.access.direction ≠ .write → h.access.objectBytes d ≠ [] →
                            raised.ownsCommit r.port y = false → d.readPolicy = .through →
                              exec (.memoryWriteAnswer ⟨true, mst⟩) s =
                                .next (State.drivePins (raised.asksPlain r.port h (some y))))

/-- The failure of a commit's last attempt poisons the entry with the record's port and the attempts made as its cause,
keeps a pending replacement, and discards every snapshot, record and claim on the entry; the other records of the queue
keep their order. With no access HELD it records COMMIT_FAILED and then one COMMIT_DISCARDED for each queued record it
discards, in queue order; that no record of another command falls between them is the model's (log 32). An access held on a word of the extent, whatever its cause, is classified again and refused as
POISON_REFUSED, its own fill withdrawn (R37, R150; log 6 for the order of the two records); that no two entries share a word
(R19, StepKeepsTableDisjointAndLegal) is asked for it. -/
def Obligations.CommitFailurePoisonsEntry : Prop :=
  ∀ (i : Instr) (s : State) (f : InFlight) (q : Port) (g : EntryIndex) (r : CommitRecord) (rest : List CommitRecord)
    (c : Content) (v : BitVec 16) (u : Nat),
    s.mem.inFlight = some f → f.transfer.purpose = .commit q g → f.transfer.isRead = false →
      f.allowance ≤ f.attempts →
      ((∃ mst, i = .memoryWriteAnswer ⟨true, mst⟩ ∧ 2 ≤ mst.toNat)
        ∨ (i = .memoryAnswerLimitExpiry ∧ f.timer.due = true)) →
        s.queue = r :: rest →
          let e := r.entry
          ∃ t, exec i s = .next t
            ∧ (s.entry e = .active c v u → t.entry e = .poisoned c v none { port := r.port, attempts := f.attempts })
            ∧ (∀ x, s.entry e = .draining c v u x →
                t.entry e = .poisoned c v (some x) { port := r.port, attempts := f.attempts })
            ∧ ((s.entry e = .active c v u ∨ ∃ x, s.entry e = .draining c v u x) →
                t.userSum e = 0 ∧ t.claims[e] = none
                  ∧ ∃ l, t.queue = (rest.filter fun n => n.entry != e) ++ l)
            ∧ ((∀ p h, (s.ports.get p).state ≠ .held h) →
                t.events =
                  ((rest.filter fun n => n.entry == e).foldl
                    (fun (z : State) n =>
                      z.recorded .commitDiscarded (some n.port) (some e) none (some (maskCount n.bytes)))
                    (s.recorded .commitFailed (some r.port) (some e) none (some f.attempts))).events)
            ∧ ∀ p h, s.disjoint → (s.entry e = .active c v u ∨ ∃ x, s.entry e = .draining c v u x) →
                (s.ports.get p).state = .held h → s.lookup h.access.word = some e →
                  (∀ k a n b, s.mem.waiting.get p = some k → k.purpose = .fill n a b → b = e) →
                    t.ports.get p = (s.refuses p h).ports.get p ∧ t.mem.waiting.get p = none
                      ∧ ((∀ g, (s.ports.get p.other).state ≠ .held g) → (∀ n ∈ rest, n.entry ≠ e) →
                          let x := note .commitFailed (some r.port) (some e) none (some f.attempts)
                          let y := note .poisonRefused (some p) (some e) (some h.access.address) none
                          t.events = (s.events.enter x).enter y ∨ t.events = (s.events.enter y).enter x)

/-- A transfer in flight is not withdrawn: only an answer of memory, an expiry of its answer limit or a device reset ends
an attempt or a transfer; an answer that comes with MREQn released ends none (R99; log 31). (A TICK forces an overdue
expiry, log 4, and is left out here.) -/
def Obligations.GrantedTransferRunsOn : Prop :=
  ∀ (i : Instr) (s t : State) (f : InFlight),
    s.mem.inFlight = some f → exec i s = .next t →
      (∀ data mst, i ≠ .memoryReadWord data ⟨true, mst⟩) → (∀ mst, i ≠ .memoryWriteAnswer ⟨true, mst⟩) →
        i ≠ .memoryAnswerLimitExpiry → i ≠ .tick → i ≠ .deviceReset →
          ∃ g, t.mem.inFlight = some g ∧ g.transfer = f.transfer ∧ g.allowance = f.allowance
            ∧ g.attempts = f.attempts ∧ g.taken = f.taken ∧ g.timer = f.timer

/-! ## The event queue and ALERTn -/

/-- An event is entered at the tail with the next sequence and the pending-drop count while the list holds fewer than 32
records, and is dropped and counted otherwise. -/
def Obligations.EventEnteredOrDropped : Prop :=
  ∀ (q : EventQueue) (r : Report),
    (q.records.length < 32 →
      q.enter r =
        { q with
          records := q.records
            ++ [{ sequence := q.nextSequence, kind := r.kind, port := r.port, entry := r.entry, address := r.address,
                  detail := r.detail, dropped := if q.drops = 0 then none else some q.drops }]
          nextSequence := q.nextSequence + 1
          drops := 0 })
      ∧ (32 ≤ q.records.length → q.drops ≤ 255 →
          q.enter r = { q with drops := if q.drops = 255 then 255 else q.drops + 1 })

/-- ALERTn is driven low exactly while the queue is as long as the threshold, or the poison alert is enabled and some entry
is POISONED; never while RESETn is asserted. -/
def Obligations.AlertFollowsQueueAndPoison : Prop :=
  ∀ s : State, s.pinsDriven →
    (s.pins.alertn = false ↔
      s.inReset = false
        ∧ (s.events.threshold ≤ s.events.records.length
          ∨ (s.events.poisonAlert = true ∧ ∃ e, (s.entry e).isPoisoned = true)))

/-! ## The link -/

/-- What the release of MSELn makes of the bytes shifted in: the seven checks, in order. -/
def Obligations.FrameJudgedInOrder : Prop :=
  ∀ busy : Bool,
    (∀ bytes, bytes.length < 3 → judge bytes busy = .discarded .truncated)
      ∧ ∀ (code tag len : Byte) (rest : List Byte),
          judge (code :: tag :: len :: rest) busy =
            if 11 < len.toNat then .discarded .length
            else if rest.length < len.toNat + 1 then .discarded .truncated
            else if (sumBytes (code :: tag :: len :: rest.take (len.toNat + 1))).toNat ≠ 0 then .discarded .check
            else if code.toNat = 0 then .nop
            else if busy = true then .discarded .busyDiscard
            else .taken code tag (rest.take len.toNat)

/-- Sent bit by bit, with any bits after it, the frame of every well-formed link row acts as that row: the bits decide
(log 12). -/
def Obligations.FrameBitsDecodeToTheirRow : Prop :=
  ∀ (i : Instr) (code tag : Byte) (args : List Byte) (more : List Bool) (s : State),
    i.wellFormed = true → frameOf i = some (code, tag, args) →
      exec (.discardedFrame (unpackBytes (requestFrame code tag args) ++ more)) s = exec i s

/-- A discarded frame changes nothing but MSELn and the event queue, which gets LINK_ERROR with the cause; a request in a
transaction whose image was PENDING is one; a transaction without an edge of MCK changes nothing but MSELn. -/
def Obligations.DiscardedFrameOnlyRecordsLinkError : Prop :=
  ∀ s : State, s.judgesFrame = true →
    (∀ mdi cause, mdi ≠ [] → judge (packBits mdi) s.link.imagePending = .discarded cause →
        exec (.discardedFrame mdi) s =
          .next (State.drivePins (s.deselected.recorded .linkError none none none (some cause.number))))
      ∧ exec (.discardedFrame []) s = .next s.deselected.drivePins
      ∧ ∀ i code tag args, i.wellFormed = true → frameOf i = some (code, tag, args) → code ≠ 0 →
          s.link.imagePending = true →
            exec i s = .next (State.drivePins (s.deselected.recorded .linkError none none none (some 4)))

/-- The assertion of MSELn fixes the image of the slot, PENDING without results while the mark is set, and takes none
during a device reset; it changes nothing else, and where MSELn is low already there is none (log 10). A completion clears
the mark and nothing else. A NOP changes nothing but MSELn; nor does any link row during a device reset or in a select
period that began before its release. The bytes of an
image are its tag, its status by the numbers of R190, its result length, its results and a check byte that makes them sum to
0 mod 256; FF hex follows them (R168). -/
def Obligations.ImageFixedAndNopChangesNothing : Prop :=
  (∀ image : Image,
      (∃ check, image.bytes =
          [image.tag, BitVec.ofNat 8 image.status.number, BitVec.ofNat 8 image.results.length] ++ image.results ++ [check])
        ∧ (image.bytes.map BitVec.toNat).sum % 256 = 0
        ∧ (∀ k b, image.bytes[k]? = some b → image.mdoByte k = b)
        ∧ ∀ k, image.bytes.length ≤ k → image.mdoByte k = 0xff)
    ∧ [Status.none, .pending, .ok, .okDraining, .badCommand, .badLength, .badArg, .overlap, .noEntry, .notPoisoned].map
        Status.number = [0, 1, 2, 3, 16, 17, 18, 19, 20, 21]
    ∧ ∀ s : State,
      (s.link.select = .high → s.inReset = false →
        exec .mselnAssert s =
          .next
            (State.drivePins
              { s with
                link :=
                  { s.link with
                    select := .active
                      (if s.link.pendingMark = true then { tag := s.link.tag, status := .pending, results := [] }
                      else { tag := s.link.tag, status := s.link.status, results := s.link.results }) } }))
        ∧ (s.link.select = .high → s.inReset = true →
            exec .mselnAssert s = .next (State.drivePins { s with link := { s.link with select := .ignored } }))
        ∧ (s.link.select ≠ .high → exec .mselnAssert s = .next s.pastTick)
        ∧ exec .requestCompletion s = .next (State.drivePins { s with link := { s.link with pendingMark := false } })
        ∧ (∀ tag args, (Instr.nop tag args).wellFormed = true → s.judgesFrame = true →
            exec (.nop tag args) s = .next s.deselected.drivePins)
        ∧ ∀ i code tag args, s.judgesFrame = false → frameOf i = some (code, tag, args) →
            exec i s = .next s.deselected.drivePins

/-- A request whose code names no command is answered BAD_COMMAND, one with the wrong argument length BAD_LENGTH; neither
has any other effect. -/
def Obligations.UnknownCodeAndWrongLengthRefused : Prop :=
  ∀ s : State, s.takesRequest = true →
    (∀ code tag args, (Instr.unknownCommand code tag args).wellFormed = true →
        exec (.unknownCommand code tag args) s = .next (State.drivePins (s.withSlot tag .badCommand [])))
      ∧ ∀ cmd tag args, args.length ≤ 11 → args.length ≠ argLength cmd →
          exec (rowOf cmd tag args) s = .next (State.drivePins (s.withSlot tag .badLength []))

/-- The settings commands write their setting when every argument is in range, and are answered BAD_ARG with every setting
kept otherwise; they change nothing else. A SET_TIMEBASE leaves the period under way its setting (R39); only one whose command
follows TICK's directly is taken together with that tick, and ends as where it comes first (R185; log 21). -/
def Obligations.SettingsWrittenOrRefused : Prop :=
  ∀ (s : State) (tag : Byte), s.takesRequest = true →
    (∀ n : Byte,
      exec (.setTimebase tag [n]) s =
        .next
          (State.drivePins
            (if 10 ≤ n.toNat ∧ n.toNat ≤ 200 then
              { s.withSlot tag .ok [] with
                time :=
                  { setting := n.toNat, underWay := if s.time.ticked = true then n.toNat else s.time.underWay,
                    count := s.time.count, ticked := false } }
            else s.withSlot tag .badArg [])))
      ∧ (∀ n : Byte, s.dues = [] →
          ∃ t u v, exec .tick s = .next t ∧ exec (.setTimebase tag [n]) s = .next u
            ∧ exec (.setTimebase tag [n]) t = .next v.pastTick ∧ exec .tick u = .next v)
      ∧ (∀ n : Byte,
          exec (.setRetry tag [n]) s =
            .next
              (State.drivePins
                (if n.toNat ≤ 7 then { s.withSlot tag .ok [] with mem := { s.mem with retryLimit := n.toNat } }
                else s.withSlot tag .badArg [])))
      ∧ (∀ n b : Byte,
          exec (.setAlert tag [n, b]) s =
            .next
              (State.drivePins
                (if 1 ≤ n.toNat ∧ n.toNat ≤ 32 ∧ b.toNat ≤ 1 then
                  { s.withSlot tag .ok [] with
                    events := { s.events with threshold := n.toNat, poisonAlert := decide (b.toNat = 1) } }
                else s.withSlot tag .badArg [])))
      ∧ ∀ q lo hi : Byte,
          let limit := lo.toNat + 256 * hi.toNat
          exec (.setHold tag [q, lo, hi]) s =
            .next
              (State.drivePins
                (if 1 ≤ q.toNat ∧ q.toNat ≤ 3 ∧ 1 ≤ limit then
                  { s.withSlot tag .ok [] with
                    ports :=
                      ⟨{ s.ports.a with holdLimit := if q.toNat = 2 then s.ports.a.holdLimit else limit },
                       { s.ports.b with holdLimit := if q.toNat = 1 then s.ports.b.holdLimit else limit }⟩ }
                else s.withSlot tag .badArg []))

/-- No command but a SET_ command, a frame given as raw bits, and a device reset changes a setting; of the others only TICK
changes the setting the period under way is counted under, or the count of periods of CLK in it, and a tick is past after
every command but TICK (log 21). -/
def Obligations.SettingsKeptByOtherCommands : Prop :=
  ∀ (i : Instr) (s t : State),
    i.wellFormed = true → exec i s = .next t → i ≠ .deviceReset → (∀ mdi, i ≠ .discardedFrame mdi) →
      ((∀ tag args, i ≠ .setTimebase tag args) →
          t.time.setting = s.time.setting ∧ (i ≠ .tick → t.time.underWay = s.time.underWay))
        ∧ (i ≠ .tick → t.time.count = s.time.count ∧ t.time.ticked = false)
        ∧ ((∀ tag args, i ≠ .setHold tag args) → ∀ p, (t.ports.get p).holdLimit = (s.ports.get p).holdLimit)
        ∧ ((∀ tag args, i ≠ .setRetry tag args) → t.mem.retryLimit = s.mem.retryLimit)
        ∧ ((∀ tag args, i ≠ .setAlert tag args) →
            t.events.threshold = s.events.threshold ∧ t.events.poisonAlert = s.events.poisonAlert)

/-- READ_STATUS answers the 16 bytes of the status image and changes nothing else; a hold cause has its number
of R190. -/
def Obligations.ReadStatusReturnsStatusImage : Prop :=
  [HoldCause.memory, .slot, .record, .claim, .drain, .ownCommit].map HoldCause.number = [1, 2, 3, 4, 5, 6]
    ∧ (∀ (s : State) (tag : Byte), s.takesRequest = true →
      exec (.readStatus tag []) s =
        .next
          (State.drivePins
            (s.withSlot tag .ok
              [BitVec.ofNat 8 s.events.records.length, BitVec.ofNat 8 s.events.drops,
               BitVec.ofNat 8 s.events.nextSequence.toNat, BitVec.ofNat 8 (s.events.nextSequence.toNat / 256),
               BitVec.ofNat 8 s.poisonedCount, BitVec.ofNat 8 s.queue.length,
               match s.ports.a.state with
               | .held h => BitVec.ofNat 8 h.cause.number
               | _ => 0,
               match s.ports.b.state with
               | .held h => BitVec.ofNat 8 h.cause.number
               | _ => 0,
               BitVec.ofNat 8 s.time.setting,
               BitVec.ofNat 8 s.ports.a.holdLimit, BitVec.ofNat 8 (s.ports.a.holdLimit / 256),
               BitVec.ofNat 8 s.ports.b.holdLimit, BitVec.ofNat 8 (s.ports.b.holdLimit / 256),
               BitVec.ofNat 8 s.mem.retryLimit, BitVec.ofNat 8 s.events.threshold,
               if s.events.poisonAlert = true then 1 else 0])))
    ∧ ∀ tag : Byte,
        exec (.readStatus tag []) State.reset =
          .next
            (State.drivePins
              (State.reset.withSlot tag .ok [0, 0, 0, 0, 0, 0, 0, 0, 50, 208, 7, 208, 7, 3, 16, 1]))

/-- READ_ENTRY answers the entry's state, user count, presence byte and present parts, in that order, and changes nothing
else; an index above 63 is refused. -/
def Obligations.ReadEntryReturnsEntry : Prop :=
  ∀ (s : State) (tag n : Byte), s.takesRequest = true →
    (64 ≤ n.toNat → exec (.readEntry tag [n]) s = .next (State.drivePins (s.withSlot tag .badArg [])))
      ∧ ∀ e : EntryIndex, n.toNat = e.val →
          exec (.readEntry tag [n]) s =
            .next
              (State.drivePins
                (s.withSlot tag .ok
                  (match s.entry e with
                  | .empty => [n, 0, 0, 0]
                  | .active c v u => [n, 1, BitVec.ofNat 8 u, 1] ++ c.image ++ leBytes 2 v.toNat
                  | .draining c v u .delete => [n, 2, BitVec.ofNat 8 u, 7] ++ c.image ++ leBytes 2 v.toNat
                  | .draining c v u (.content d) =>
                    [n, 2, BitVec.ofNat 8 u, 3] ++ c.image ++ leBytes 2 v.toNat ++ d.image
                  | .poisoned c v none k =>
                    [n, 3, 0, 9] ++ c.image ++ leBytes 2 v.toNat
                      ++ [if k.port = .a then 1 else 2, BitVec.ofNat 8 k.attempts]
                  | .poisoned c v (some .delete) k =>
                    [n, 3, 0, 15] ++ c.image ++ leBytes 2 v.toNat
                      ++ [if k.port = .a then 1 else 2, BitVec.ofNat 8 k.attempts]
                  | .poisoned c v (some (.content d)) k =>
                    [n, 3, 0, 11] ++ c.image ++ leBytes 2 v.toNat ++ d.image
                      ++ [if k.port = .a then 1 else 2, BitVec.ofNat 8 k.attempts])))

/-- The entry image carries a content both ways: the image of a legal content decodes to it, and what decodes has that
image; the ten bytes are those of R192. -/
def Obligations.EntryImageRoundTrip : Prop :=
  (∀ c : Content, c.legal = true → contentOf c.image = some c)
    ∧ (∀ c : Content,
        c.image =
          [BitVec.ofNat 8 c.base, BitVec.ofNat 8 (c.base / 256), BitVec.ofNat 8 (c.base / 65536),
           BitVec.ofNat 8 c.length,
           BitVec.ofNat 8
            ((match c.order with | .any => 0 | .leadLow => 1 | .leadHigh => 2)
              + 4 * (match c.writers with | .noWriter => 0 | .a => 1 | .b => 2 | .ab => 3)),
           BitVec.ofNat 8
            ((match c.readPolicy with | .snapshot => 0 | .through => 1)
              + (match c.writePolicy with | .staged => 0 | .through => 2)
              + (match c.claim with | .shared => 0 | .exclusive => 4)
              + (match c.stray with | .pass => 0 | .fault => 8)),
           BitVec.ofNat 8 c.snapshotLimit, BitVec.ofNat 8 (c.snapshotLimit / 256),
           BitVec.ofNat 8 c.stagingLimit, BitVec.ofNat 8 (c.stagingLimit / 256)])
    ∧ ∀ (bs : List Byte) (c : Content), contentOf bs = some c → c.image = bs

/-- PEEK_EVENTS copies the oldest min(n, 8, length) records as images of ten bytes (R195) and removes none. ACK_EVENTS
removes every record from the head through the one named, or is refused where no record carries the number. The kinds
have the numbers R190 lists. -/
def Obligations.PeekCopiesAndAckRemoves : Prop :=
  [EventKind.snapExpired, .stageExpired, .stageRestarted, .strayRead, .strayWrite, .writeDenied, .poisonRefused,
      .holdExpired, .readFailed, .writeFailed, .commitFailed, .commitDiscarded, .recovered, .portReset, .flushed,
      .entryInstalled, .linkError].map EventKind.number = [1, 2, 3, 4, 5, 6, 7, 8, 9, 10, 11, 12, 13, 14, 15, 16, 17]
    ∧ ∀ (s : State) (tag : Byte), s.takesRequest = true →
      let image : EventRecord → List Byte := fun r =>
        let address := (r.address.map BitVec.toNat).getD 0
        [BitVec.ofNat 8 r.sequence.toNat, BitVec.ofNat 8 (r.sequence.toNat / 256), BitVec.ofNat 8 r.kind.number,
         BitVec.ofNat 8
          ((match r.port with | none => 0 | some .a => 1 | some .b => 2) + (if r.entry = none then 0 else 4)
            + (if r.address = none then 0 else 8) + (if r.detail = none then 0 else 16)
            + (if r.dropped = none then 0 else 32)),
         BitVec.ofNat 8 ((r.entry.map Fin.val).getD 0),
         BitVec.ofNat 8 address, BitVec.ofNat 8 (address / 256), BitVec.ofNat 8 (address / 65536),
         BitVec.ofNat 8 (r.detail.getD 0), BitVec.ofNat 8 (r.dropped.getD 0)]
      (∀ n : Byte,
        exec (.peekEvents tag [n]) s =
          .next
            (State.drivePins
              (s.withSlot tag .ok
                ((s.events.records.take (min n.toNat 8)).map image).flatten)))
        ∧ ∀ lo hi : Byte,
            (∀ before r after, s.events.records = before ++ r :: after →
                r.sequence.toNat = lo.toNat + 256 * hi.toNat →
                (∀ x ∈ before, x.sequence.toNat ≠ lo.toNat + 256 * hi.toNat) →
                  exec (.ackEvents tag [lo, hi]) s =
                    .next
                      (State.drivePins
                        { s.withSlot tag .ok [] with events := { s.events with records := after } }))
              ∧ ((∀ x ∈ s.events.records, x.sequence.toNat ≠ lo.toNat + 256 * hi.toNat) →
                  exec (.ackEvents tag [lo, hi]) s = .next (State.drivePins (s.withSlot tag .badArg [])))

/-- A WRITE_ENTRY is refused with BAD_ARG exactly on the conditions of R18: an index above 63, a base above 1,048,575, a
length outside 2 to 32, an extent that runs past the window, both policies THROUGH, EXCLUSIVE with write policy THROUGH, a
limit outside 1 to 4095, or an encoding that names no value (R193). Then one whose extent another index reserves is refused
with OVERLAP; neither changes anything. One that meets users or a drain leaves its content as the pending replacement with
OK_DRAINING. -/
def Obligations.WriteEntryRefusedOrWaits : Prop :=
  ∀ (s : State) (tag n b0 b1 b2 len four five n0 n1 g0 g1 : Byte), s.takesRequest = true →
    let image := [b0, b1, b2, len, four, five, n0, n1, g0, g1]
    let base := b0.toNat + 256 * b1.toNat + 65536 * b2.toNat
    let snapshotLimit := n0.toNat + 256 * n1.toNat
    let stagingLimit := g0.toNat + 256 * g1.toNat
    let badArg : Prop :=
      63 < n.toNat ∨ 1048575 < base ∨ len.toNat < 2 ∨ 32 < len.toNat ∨ 1048575 < base + (len.toNat + 3) / 4 - 1
        ∨ (five.getLsbD 0 = true ∧ five.getLsbD 1 = true) ∨ (five.getLsbD 2 = true ∧ five.getLsbD 1 = true)
        ∨ snapshotLimit = 0 ∨ 4095 < snapshotLimit ∨ stagingLimit = 0 ∨ 4095 < stagingLimit
        ∨ four.toNat % 4 = 3 ∨ 15 < four.toNat ∨ 15 < five.toNat
    (badArg → exec (.writeEntry tag (n :: image)) s = .next (State.drivePins (s.withSlot tag .badArg [])))
      ∧ (¬badArg → ∃ c, contentOf image = some c ∧ c.legal = true)
      ∧ ∀ (e : EntryIndex) (c : Content), n.toNat = e.val → contentOf image = some c → ¬badArg →
          (s.overlapsOther e c = true →
            exec (.writeEntry tag (n :: image)) s = .next (State.drivePins (s.withSlot tag .overlap [])))
            ∧ (s.overlapsOther e c = false →
                (∀ old v u, s.entry e = .active old v u → 1 ≤ u →
                  exec (.writeEntry tag (n :: image)) s =
                    .next
                      (State.drivePins
                        ((s.withEntry e (.draining old v u (.content c))).withSlot tag .okDraining [])))
                  ∧ ∀ old v u r, s.entry e = .draining old v u r →
                      exec (.writeEntry tag (n :: image)) s =
                        .next
                          (State.drivePins
                            ((s.withEntry e (.draining old v u (.content c))).withSlot tag .okDraining [])))

/-- An accepted WRITE_ENTRY on an EMPTY, POISONED or user-free ACTIVE entry installs at once, at version 0, with OK and
without an event of its own. A held access the install concerns is classified again, its request dropped (R37, R145): on no
entry it goes plain, on the new content it may open a snapshot or a record; where it concerns none, nothing else changes. -/
def Obligations.WriteEntryInstallsAtOnce : Prop :=
  ∀ (s : State) (tag n : Byte) (image : List Byte) (e : EntryIndex) (c : Content),
    s.takesRequest = true → n.toNat = e.val → image.length = 10 → contentOf image = some c → c.legal = true →
      s.overlapsOther e c = false →
        (match s.entry e with
        | .empty => True
        | .active _ _ u => u = 0
        | .draining _ _ _ _ => False
        | .poisoned _ _ _ _ => True) →
          (∃ t, exec (.writeEntry tag (n :: image)) s = .next t ∧ (∃ u, t.entry e = .active c 0 u)
              ∧ t.link = (s.withSlot tag .ok []).link)
            ∧ let installed := (s.installedAs e (.active c 0 0)).withSlot tag .ok []
              (s.unconcerned e (s.entry e).content? (some c) = true →
                exec (.writeEntry tag (n :: image)) s = .next (State.drivePins installed))
                ∧ ∀ p h, (s.ports.get p).state = .held h → s.noFillAsked p = true →
                    h.concerned e (s.entry e).content? (some c) = true →
                      s.holds p.other (fun g => g.concerned e (s.entry e).content? (some c)) = false →
                        (installed.lookup h.access.word = none →
                          exec (.writeEntry tag (n :: image)) s =
                            .next (State.drivePins (installed.asksPlain p h none)))
                          ∧ (installed.lookup h.access.word = some e →
                              (installed.readOpens p h.access e c = true →
                                exec (.writeEntry tag (n :: image)) s =
                                  .next (State.drivePins (installed.opensSnapshot p h e c 0 0)))
                                ∧ (installed.writeOpens p h.access e c = true →
                                    exec (.writeEntry tag (n :: image)) s =
                                      .next
                                        (State.drivePins
                                          ((installed.withWaiting p none).opensRecord p h e c 0 0))))

/-- DELETE_ENTRY by the state of its entry: NO_ENTRY on EMPTY; a pending delete with OK_DRAINING where there are users or a
drain; else the entry is EMPTY at once with OK, and a held access on a word of its extent is classified again and goes plain
(R37, R145). An index above 63 is refused. -/
def Obligations.DeleteEntryActsByEntryState : Prop :=
  ∀ (s : State) (tag n : Byte), s.takesRequest = true →
    (64 ≤ n.toNat → exec (.deleteEntry tag [n]) s = .next (State.drivePins (s.withSlot tag .badArg [])))
      ∧ ∀ e : EntryIndex, n.toNat = e.val →
          (s.entry e = .empty →
            exec (.deleteEntry tag [n]) s = .next (State.drivePins (s.withSlot tag .noEntry [])))
            ∧ (∀ c v u, s.entry e = .active c v u → 1 ≤ u →
                exec (.deleteEntry tag [n]) s =
                  .next (State.drivePins ((s.withEntry e (.draining c v u .delete)).withSlot tag .okDraining [])))
            ∧ (∀ c v u r, s.entry e = .draining c v u r →
                exec (.deleteEntry tag [n]) s =
                  .next (State.drivePins ((s.withEntry e (.draining c v u .delete)).withSlot tag .okDraining [])))
            ∧ ((∃ c v, s.entry e = .active c v 0) ∨ (∃ c v r k, s.entry e = .poisoned c v r k) →
                (∃ t, exec (.deleteEntry tag [n]) s = .next t ∧ t.entry e = .empty
                    ∧ t.link = (s.withSlot tag .ok []).link)
                  ∧ (s.unconcerned e (s.entry e).content? none = true →
                      exec (.deleteEntry tag [n]) s =
                        .next (State.drivePins ((s.installedAs e .empty).withSlot tag .ok [])))
                  ∧ ∀ p h, (s.ports.get p).state = .held h → s.noFillAsked p = true →
                      h.concerned e (s.entry e).content? none = true →
                        s.holds p.other (fun g => g.concerned e (s.entry e).content? none) = false →
                          (s.installedAs e .empty).lookup h.access.word = none →
                            exec (.deleteEntry tag [n]) s =
                              .next
                                (State.drivePins
                                  (((s.installedAs e .empty).withSlot tag .ok []).asksPlain p h none)))

/-- CLEAR_POISON by the state of its entry: NO_ENTRY on EMPTY, NOT_POISONED on ACTIVE and DRAINING; on POISONED it restores
the old content and version, or installs the kept replacement with ENTRY_INSTALLED. A held access that the clear concerns is
classified again in the same event (R37, R145, R151): on no entry it goes plain, on the content after the clear it may open a
snapshot or a record. An index above 63 is refused. -/
def Obligations.ClearPoisonActsByEntryState : Prop :=
  ∀ (s : State) (tag n : Byte), s.takesRequest = true →
    (64 ≤ n.toNat → exec (.clearPoison tag [n]) s = .next (State.drivePins (s.withSlot tag .badArg [])))
      ∧ ∀ e : EntryIndex, n.toNat = e.val →
          (s.entry e = .empty →
            exec (.clearPoison tag [n]) s = .next (State.drivePins (s.withSlot tag .noEntry [])))
            ∧ ((∃ c v u, s.entry e = .active c v u) ∨ (∃ c v u r, s.entry e = .draining c v u r) →
                exec (.clearPoison tag [n]) s = .next (State.drivePins (s.withSlot tag .notPoisoned [])))
            ∧ (∀ c v k, s.entry e = .poisoned c v none k → s.unconcerned e (some c) (some c) = true →
                exec (.clearPoison tag [n]) s =
                  .next
                    (State.drivePins
                      (((s.withEntry e (.active c v 0)).withClaim e none).withSlot tag .ok [])))
            ∧ (∀ c v r k, s.entry e = .poisoned c v (some r) k → s.unconcerned e (some c) r.content? = true →
                exec (.clearPoison tag [n]) s =
                  .next
                    (State.drivePins
                      ((((s.withEntry e r.installed).withClaim e none).withSlot tag .ok []).recorded .entryInstalled
                        none (some e) none (some r.detail))))
            ∧ ∀ c v q k p h, s.entry e = .poisoned c v q k → (s.ports.get p).state = .held h → s.noFillAsked p = true →
                let x : Entry := match q with | none => .active c v 0 | some r => r.installed
                let content : Option Content := match q with | none => some c | some r => r.content?
                let cleared := (s.installedAs e x).withSlot tag .ok []
                let noted :=
                  match q with
                  | none => cleared
                  | some r => cleared.recorded .entryInstalled none (some e) none (some r.detail)
                h.concerned e (some c) content = true →
                  s.holds p.other (fun g => g.concerned e (some c) content) = false →
                    (cleared.lookup h.access.word = none →
                      exec (.clearPoison tag [n]) s = .next (State.drivePins (noted.asksPlain p h none)))
                      ∧ ∀ d w, x = .active d w 0 → cleared.lookup h.access.word = some e →
                          (cleared.readOpens p h.access e d = true →
                            exec (.clearPoison tag [n]) s = .next (State.drivePins (noted.opensSnapshot p h e d w 0)))
                            ∧ (cleared.writeOpens p h.access e d = true →
                                exec (.clearPoison tag [n]) s =
                                  .next (State.drivePins ((noted.withWaiting p none).opensRecord p h e d w 0)))

/-- FLUSH ends each named port's access with error, at once if HELD and at its transfer's end if IN_TRANSFER, and leaves
the port without a snapshot, an OPEN record or a waiting request; queued records, the transfer in flight and every setting
stay. With no port that is not named held on a claim: where no discard takes a DRAINING entry to no users, each entry loses the
users discarded, each named port records FLUSHED with its count of discards, no other event is recorded, and the other port
stays as it is; where the discards take one to no users, its replacement installs in the same event with ENTRY_INSTALLED
(R152), and an access of a port not named that the install concerns is classified again (R145). The records enter in any
order (R184; log 6). A port choice that is none of the three is refused and flushes nothing. -/
def Obligations.FlushEndsAccessesAndDiscards : Prop :=
  ∀ (s : State) (tag q : Byte), s.takesRequest = true →
    let named : Port → Prop := fun p => if p = .a then q.toNat ≠ 2 else q.toNat ≠ 1
    let flushed : Port → Report := fun p =>
      note .flushed (some p) none none (some ((s.snaps.get p).length + (s.recs.get p).length))
    (q.toNat < 1 ∨ 3 < q.toNat → exec (.flush tag [q]) s = .next (State.drivePins (s.withSlot tag .badArg [])))
      ∧ (1 ≤ q.toNat → q.toNat ≤ 3 →
          ∃ t, exec (.flush tag [q]) s = .next t ∧ t.link = (s.withSlot tag .ok []).link
            ∧ t.mem.inFlight = s.mem.inFlight ∧ t.mem.retryLimit = s.mem.retryLimit
            ∧ t.time = s.pastTick.time
            ∧ t.events.threshold = s.events.threshold ∧ t.events.poisonAlert = s.events.poisonAlert
            ∧ (∀ p, (t.ports.get p).holdLimit = (s.ports.get p).holdLimit)
            ∧ (∃ l, t.queue = s.queue ++ l)
            ∧ (∀ p, named p →
                t.snaps.get p = [] ∧ t.recs.get p = [] ∧ t.mem.waiting.get p = none
                  ∧ t.ports.get p =
                      { s.ports.get p with
                        state :=
                          match (s.ports.get p).state with
                          | .held h => if h.released = true then .idle else refusedWith h.access
                          | .inTransfer r => .inTransfer { r with flushed := true }
                          | x => x })
            ∧ ((∀ p, ¬named p → s.holds p (fun h => h.cause == .claim) = false) →
                let both := (if q.toNat = 2 then [] else [flushed .a]) ++ (if q.toNat = 1 then [] else [flushed .b])
                let discards : EntryIndex → Nat := fun e =>
                  (if q.toNat = 2 then 0 else s.discardsOn .a e) + (if q.toNat = 1 then 0 else s.discardsOn .b e)
                let spared : EntryIndex → Prop := fun e =>
                  ∀ c v u r, s.entry e = .draining c v u r → discards e < u ∨ discards e = 0
                ((∀ e, spared e) →
                  t.queue = s.queue ∧ (∀ e, t.entry e = (s.entry e).fewer (discards e))
                    ∧ (∀ p, ¬named p →
                        t.ports.get p = s.ports.get p ∧ t.snaps.get p = s.snaps.get p ∧ t.recs.get p = s.recs.get p)
                    ∧ s.events.takesAll both t.events)
                  ∧ ∀ e c v u r, s.entry e = .draining c v u r → discards e = u → 1 ≤ u → (∀ f, f ≠ e → spared f) →
                      let y := note .entryInstalled none (some e) none (some r.detail)
                      (q.toNat = 3 →
                        t.entry e = r.installed ∧ t.claims[e] = none ∧ t.queue = s.queue
                          ∧ s.events.takesAll (both ++ [y]) t.events)
                        ∧ ∀ p w, ¬named p →
                            let bare := ((s.withSnaps p.other []).withRecs p.other []).installedAs e r.installed
                            bare.installLeadsTo p e c r w →
                              t.agreesOn w p e ∧ s.events.takesAll (both ++ [y]) t.events))

/-! ## Invariants that every step keeps -/

/-- The event queue holds at most 32 records of consecutive sequence, up to the next sequence, and at most 255 drops; every
setting stays in its range; an answer carries data unless it is a write's, all ones with an error (R121, R122). The output
pins follow the state: the port pins in each port state (R117; AERRn and BERRn before an answer are log 28's, and the byte of
port A's answer is the one on the lane of its address), MDO in each select state (R168, R186; log 19), the memory pins while
no transfer is in flight (R96; log 18), and the rest at the levels `State.pinLevels` gives them, which
FailedAttemptIsMadeAgainWhole and AlertFollowsQueueAndPoison write out. -/
def Obligations.StepKeepsQueueSettingsAndPins : Prop :=
  ∀ s t : State, step s = .next t →
    (s.events.sound → t.events.sound) ∧ (s.settingsLegal → t.settingsLegal)
      ∧ (s.answersMatched → t.answersMatched)
      ∧ (s.pinsDriven →
          t.pinsDriven
            ∧ t.pins.portA =
                (match t.ports.a.state with
                | .idle => { awaitn := true, aerrn := true, ad := none }
                | .held _ => { awaitn := false, aerrn := true, ad := none }
                | .inTransfer _ => { awaitn := false, aerrn := true, ad := none }
                | .answered a ans =>
                  { awaitn := true, aerrn := !ans.error,
                    ad := ans.data.map fun w => w.extractLsb' (8 * (a.address.toNat % 4)) 8 }
                | .inReset => { awaitn := true, aerrn := true, ad := none })
            ∧ t.pins.portB =
                (match t.ports.b.state with
                | .idle => { backn := true, berrn := true, bd := none }
                | .held _ => { backn := true, berrn := true, bd := none }
                | .inTransfer _ => { backn := true, berrn := true, bd := none }
                | .answered _ ans => { backn := false, berrn := !ans.error, bd := ans.data }
                | .inReset => { backn := true, berrn := true, bd := none })
            ∧ t.pins.mdo =
                (match t.link.select with
                | .high => none
                | .ignored => none
                | .active image => some (image.tag.getLsbD 7))
            ∧ (t.mem.inFlight = none →
                t.pins.memory = [{ mreqn := true, ma := none, mwrn := none, mlen := none, mben := 0b1111, md := none }]))

/-- No two entries share a word, pending replacements included, and every content is legal. -/
def Obligations.StepKeepsTableDisjointAndLegal : Prop :=
  ∀ s t : State, s.disjoint → s.contentsLegal → step s = .next t → t.disjoint ∧ t.contentsLegal

/-- User counts stay exact, a DRAINING entry keeps a user, the pools stay within their bounds, and the records of an
EXCLUSIVE entry stay one port's. -/
def Obligations.StepKeepsUsersPoolsAndClaims : Prop :=
  ∀ s t : State,
    s.usersExact → s.drainingUsed → s.poolsBounded → s.claimsSound → step s = .next t →
      t.usersExact ∧ t.drainingUsed ∧ t.poolsBounded ∧ t.claimsSound

/-- Ports, reset lines and waiting requests stay matched, and the commit engine always works on the head of the queue with
the burst of its record, as R81 writes it out (`Transfer.isBurstOf`). -/
def Obligations.StepKeepsPortsAndEngineMatched : Prop :=
  ∀ s t : State,
    s.usersExact → s.portsMatched → s.engineMatched → step s = .next t →
      t.portsMatched ∧ t.engineMatched
        ∧ ∀ r rest c x, t.queue = r :: rest → (t.entry r.entry).content? = some c →
            t.mem.waitingCommit = some x ∨ t.mem.commitInFlight = some x → x.isBurstOf r c
end

