-- ==== Sys2Proof/Laws/State.lean ====
section
/-! SUPPORT. One lemma per field per update: the updates of an event in progress, the two ports' values, and the parts
of the state the pins are driven from. -/

namespace Sys2Proof.Machine

open Sys2Proof

/-! ## Values of the two ports -/

section PerPort
variable {α : Type} (x : PerPort α) (p q : Port) (v : α)

@[simp] theorem PerPort.get_a : x.get .a = x.a := rfl
@[simp] theorem PerPort.get_b : x.get .b = x.b := rfl
@[simp] theorem PerPort.set_a : x.set .a v = { x with a := v } := rfl
@[simp] theorem PerPort.set_b : x.set .b v = { x with b := v } := rfl
@[simp] theorem PerPort.get_set_same : (x.set p v).get p = v := by cases p <;> rfl
@[simp] theorem PerPort.get_set_other : (x.set p v).get p.other = x.get p.other := by cases p <;> rfl
theorem PerPort.get_set_ne (h : q ≠ p) : (x.set p v).get q = x.get q := by
  cases p <;> cases q <;> first | rfl | exact absurd rfl h
@[simp] theorem PerPort.set_set (u : α) : (x.set p u).set p v = x.set p v := by cases p <;> rfl
@[simp] theorem PerPort.set_get : x.set p (x.get p) = x := by cases p <;> rfl

end PerPort

@[simp] theorem Port.other_ne (p : Port) : p.other ≠ p := by cases p <;> decide
@[simp] theorem Port.other_other (p : Port) : p.other.other = p := by cases p <;> rfl

/-! ## The beginning of an event -/

section Begin
variable (s : State)

@[simp] theorem State.begin_s : s.begin.s = s := rfl
@[simp] theorem State.begin_reports : s.begin.reports = [] := rfl
@[simp] theorem State.begin_again : s.begin.again = ⟨false, false⟩ := rfl

end Begin

/-! ## setEntry -/

section setEntry
variable (w : Work) (e : EntryIndex) (x : Entry)

@[simp] theorem Work.setEntry_table : (w.setEntry e x).s.table = w.s.table.set e x := rfl
@[simp] theorem Work.setEntry_snaps : (w.setEntry e x).s.snaps = w.s.snaps := rfl
@[simp] theorem Work.setEntry_recs : (w.setEntry e x).s.recs = w.s.recs := rfl
@[simp] theorem Work.setEntry_queue : (w.setEntry e x).s.queue = w.s.queue := rfl
@[simp] theorem Work.setEntry_claims : (w.setEntry e x).s.claims = w.s.claims := rfl
@[simp] theorem Work.setEntry_ports : (w.setEntry e x).s.ports = w.s.ports := rfl
@[simp] theorem Work.setEntry_mem : (w.setEntry e x).s.mem = w.s.mem := rfl
@[simp] theorem Work.setEntry_time : (w.setEntry e x).s.time = w.s.time := rfl
@[simp] theorem Work.setEntry_events : (w.setEntry e x).s.events = w.s.events := rfl
@[simp] theorem Work.setEntry_link : (w.setEntry e x).s.link = w.s.link := rfl
@[simp] theorem Work.setEntry_inReset : (w.setEntry e x).s.inReset = w.s.inReset := rfl
@[simp] theorem Work.setEntry_pins : (w.setEntry e x).s.pins = w.s.pins := rfl
@[simp] theorem Work.setEntry_choices : (w.setEntry e x).s.choices = w.s.choices := rfl
@[simp] theorem Work.setEntry_pending : (w.setEntry e x).s.pending = w.s.pending := rfl
@[simp] theorem Work.setEntry_reports : (w.setEntry e x).reports = w.reports := rfl
@[simp] theorem Work.setEntry_again : (w.setEntry e x).again = w.again := rfl

end setEntry

/-! ## setClaim -/

section setClaim
variable (w : Work) (e : EntryIndex) (h : Option Port)

@[simp] theorem Work.setClaim_table : (w.setClaim e h).s.table = w.s.table := rfl
@[simp] theorem Work.setClaim_snaps : (w.setClaim e h).s.snaps = w.s.snaps := rfl
@[simp] theorem Work.setClaim_recs : (w.setClaim e h).s.recs = w.s.recs := rfl
@[simp] theorem Work.setClaim_queue : (w.setClaim e h).s.queue = w.s.queue := rfl
@[simp] theorem Work.setClaim_claims : (w.setClaim e h).s.claims = w.s.claims.set e h := rfl
@[simp] theorem Work.setClaim_ports : (w.setClaim e h).s.ports = w.s.ports := rfl
@[simp] theorem Work.setClaim_mem : (w.setClaim e h).s.mem = w.s.mem := rfl
@[simp] theorem Work.setClaim_time : (w.setClaim e h).s.time = w.s.time := rfl
@[simp] theorem Work.setClaim_events : (w.setClaim e h).s.events = w.s.events := rfl
@[simp] theorem Work.setClaim_link : (w.setClaim e h).s.link = w.s.link := rfl
@[simp] theorem Work.setClaim_inReset : (w.setClaim e h).s.inReset = w.s.inReset := rfl
@[simp] theorem Work.setClaim_pins : (w.setClaim e h).s.pins = w.s.pins := rfl
@[simp] theorem Work.setClaim_choices : (w.setClaim e h).s.choices = w.s.choices := rfl
@[simp] theorem Work.setClaim_pending : (w.setClaim e h).s.pending = w.s.pending := rfl
@[simp] theorem Work.setClaim_reports : (w.setClaim e h).reports = w.reports := rfl
@[simp] theorem Work.setClaim_again : (w.setClaim e h).again = w.again := rfl

end setClaim

/-! ## setSnaps -/

section setSnaps
variable (w : Work) (p : Port) (l : List Snapshot)

@[simp] theorem Work.setSnaps_table : (w.setSnaps p l).s.table = w.s.table := rfl
@[simp] theorem Work.setSnaps_snaps : (w.setSnaps p l).s.snaps = w.s.snaps.set p l := rfl
@[simp] theorem Work.setSnaps_recs : (w.setSnaps p l).s.recs = w.s.recs := rfl
@[simp] theorem Work.setSnaps_queue : (w.setSnaps p l).s.queue = w.s.queue := rfl
@[simp] theorem Work.setSnaps_claims : (w.setSnaps p l).s.claims = w.s.claims := rfl
@[simp] theorem Work.setSnaps_ports : (w.setSnaps p l).s.ports = w.s.ports := rfl
@[simp] theorem Work.setSnaps_mem : (w.setSnaps p l).s.mem = w.s.mem := rfl
@[simp] theorem Work.setSnaps_time : (w.setSnaps p l).s.time = w.s.time := rfl
@[simp] theorem Work.setSnaps_events : (w.setSnaps p l).s.events = w.s.events := rfl
@[simp] theorem Work.setSnaps_link : (w.setSnaps p l).s.link = w.s.link := rfl
@[simp] theorem Work.setSnaps_inReset : (w.setSnaps p l).s.inReset = w.s.inReset := rfl
@[simp] theorem Work.setSnaps_pins : (w.setSnaps p l).s.pins = w.s.pins := rfl
@[simp] theorem Work.setSnaps_choices : (w.setSnaps p l).s.choices = w.s.choices := rfl
@[simp] theorem Work.setSnaps_pending : (w.setSnaps p l).s.pending = w.s.pending := rfl
@[simp] theorem Work.setSnaps_reports : (w.setSnaps p l).reports = w.reports := rfl
@[simp] theorem Work.setSnaps_again : (w.setSnaps p l).again = w.again := rfl

end setSnaps

/-! ## setRecs -/

section setRecs
variable (w : Work) (p : Port) (l : List OpenRecord)

@[simp] theorem Work.setRecs_table : (w.setRecs p l).s.table = w.s.table := rfl
@[simp] theorem Work.setRecs_snaps : (w.setRecs p l).s.snaps = w.s.snaps := rfl
@[simp] theorem Work.setRecs_recs : (w.setRecs p l).s.recs = w.s.recs.set p l := rfl
@[simp] theorem Work.setRecs_queue : (w.setRecs p l).s.queue = w.s.queue := rfl
@[simp] theorem Work.setRecs_claims : (w.setRecs p l).s.claims = w.s.claims := rfl
@[simp] theorem Work.setRecs_ports : (w.setRecs p l).s.ports = w.s.ports := rfl
@[simp] theorem Work.setRecs_mem : (w.setRecs p l).s.mem = w.s.mem := rfl
@[simp] theorem Work.setRecs_time : (w.setRecs p l).s.time = w.s.time := rfl
@[simp] theorem Work.setRecs_events : (w.setRecs p l).s.events = w.s.events := rfl
@[simp] theorem Work.setRecs_link : (w.setRecs p l).s.link = w.s.link := rfl
@[simp] theorem Work.setRecs_inReset : (w.setRecs p l).s.inReset = w.s.inReset := rfl
@[simp] theorem Work.setRecs_pins : (w.setRecs p l).s.pins = w.s.pins := rfl
@[simp] theorem Work.setRecs_choices : (w.setRecs p l).s.choices = w.s.choices := rfl
@[simp] theorem Work.setRecs_pending : (w.setRecs p l).s.pending = w.s.pending := rfl
@[simp] theorem Work.setRecs_reports : (w.setRecs p l).reports = w.reports := rfl
@[simp] theorem Work.setRecs_again : (w.setRecs p l).again = w.again := rfl

end setRecs

/-! ## setQueue -/

section setQueue
variable (w : Work) (l : List CommitRecord)

@[simp] theorem Work.setQueue_table : (w.setQueue l).s.table = w.s.table := rfl
@[simp] theorem Work.setQueue_snaps : (w.setQueue l).s.snaps = w.s.snaps := rfl
@[simp] theorem Work.setQueue_recs : (w.setQueue l).s.recs = w.s.recs := rfl
@[simp] theorem Work.setQueue_queue : (w.setQueue l).s.queue = l := rfl
@[simp] theorem Work.setQueue_claims : (w.setQueue l).s.claims = w.s.claims := rfl
@[simp] theorem Work.setQueue_ports : (w.setQueue l).s.ports = w.s.ports := rfl
@[simp] theorem Work.setQueue_mem : (w.setQueue l).s.mem = w.s.mem := rfl
@[simp] theorem Work.setQueue_time : (w.setQueue l).s.time = w.s.time := rfl
@[simp] theorem Work.setQueue_events : (w.setQueue l).s.events = w.s.events := rfl
@[simp] theorem Work.setQueue_link : (w.setQueue l).s.link = w.s.link := rfl
@[simp] theorem Work.setQueue_inReset : (w.setQueue l).s.inReset = w.s.inReset := rfl
@[simp] theorem Work.setQueue_pins : (w.setQueue l).s.pins = w.s.pins := rfl
@[simp] theorem Work.setQueue_choices : (w.setQueue l).s.choices = w.s.choices := rfl
@[simp] theorem Work.setQueue_pending : (w.setQueue l).s.pending = w.s.pending := rfl
@[simp] theorem Work.setQueue_reports : (w.setQueue l).reports = w.reports := rfl
@[simp] theorem Work.setQueue_again : (w.setQueue l).again = w.again := rfl

end setQueue

/-! ## setPort -/

section setPort
variable (w : Work) (p : Port) (x : HostPort)

@[simp] theorem Work.setPort_table : (w.setPort p x).s.table = w.s.table := rfl
@[simp] theorem Work.setPort_snaps : (w.setPort p x).s.snaps = w.s.snaps := rfl
@[simp] theorem Work.setPort_recs : (w.setPort p x).s.recs = w.s.recs := rfl
@[simp] theorem Work.setPort_queue : (w.setPort p x).s.queue = w.s.queue := rfl
@[simp] theorem Work.setPort_claims : (w.setPort p x).s.claims = w.s.claims := rfl
@[simp] theorem Work.setPort_ports : (w.setPort p x).s.ports = w.s.ports.set p x := rfl
@[simp] theorem Work.setPort_mem : (w.setPort p x).s.mem = w.s.mem := rfl
@[simp] theorem Work.setPort_time : (w.setPort p x).s.time = w.s.time := rfl
@[simp] theorem Work.setPort_events : (w.setPort p x).s.events = w.s.events := rfl
@[simp] theorem Work.setPort_link : (w.setPort p x).s.link = w.s.link := rfl
@[simp] theorem Work.setPort_inReset : (w.setPort p x).s.inReset = w.s.inReset := rfl
@[simp] theorem Work.setPort_pins : (w.setPort p x).s.pins = w.s.pins := rfl
@[simp] theorem Work.setPort_choices : (w.setPort p x).s.choices = w.s.choices := rfl
@[simp] theorem Work.setPort_pending : (w.setPort p x).s.pending = w.s.pending := rfl
@[simp] theorem Work.setPort_reports : (w.setPort p x).reports = w.reports := rfl
@[simp] theorem Work.setPort_again : (w.setPort p x).again = w.again := rfl

end setPort

/-! ## setPortState -/

section setPortState
variable (w : Work) (p : Port) (x : PortState)

@[simp] theorem Work.setPortState_table : (w.setPortState p x).s.table = w.s.table := rfl
@[simp] theorem Work.setPortState_snaps : (w.setPortState p x).s.snaps = w.s.snaps := rfl
@[simp] theorem Work.setPortState_recs : (w.setPortState p x).s.recs = w.s.recs := rfl
@[simp] theorem Work.setPortState_queue : (w.setPortState p x).s.queue = w.s.queue := rfl
@[simp] theorem Work.setPortState_claims : (w.setPortState p x).s.claims = w.s.claims := rfl
@[simp] theorem Work.setPortState_ports : (w.setPortState p x).s.ports = w.s.ports.set p { w.s.ports.get p with state := x } := rfl
@[simp] theorem Work.setPortState_mem : (w.setPortState p x).s.mem = w.s.mem := rfl
@[simp] theorem Work.setPortState_time : (w.setPortState p x).s.time = w.s.time := rfl
@[simp] theorem Work.setPortState_events : (w.setPortState p x).s.events = w.s.events := rfl
@[simp] theorem Work.setPortState_link : (w.setPortState p x).s.link = w.s.link := rfl
@[simp] theorem Work.setPortState_inReset : (w.setPortState p x).s.inReset = w.s.inReset := rfl
@[simp] theorem Work.setPortState_pins : (w.setPortState p x).s.pins = w.s.pins := rfl
@[simp] theorem Work.setPortState_choices : (w.setPortState p x).s.choices = w.s.choices := rfl
@[simp] theorem Work.setPortState_pending : (w.setPortState p x).s.pending = w.s.pending := rfl
@[simp] theorem Work.setPortState_reports : (w.setPortState p x).reports = w.reports := rfl
@[simp] theorem Work.setPortState_again : (w.setPortState p x).again = w.again := rfl

end setPortState

/-! ## setMem -/

section setMem
variable (w : Work) (m : MemoryPort)

@[simp] theorem Work.setMem_table : (w.setMem m).s.table = w.s.table := rfl
@[simp] theorem Work.setMem_snaps : (w.setMem m).s.snaps = w.s.snaps := rfl
@[simp] theorem Work.setMem_recs : (w.setMem m).s.recs = w.s.recs := rfl
@[simp] theorem Work.setMem_queue : (w.setMem m).s.queue = w.s.queue := rfl
@[simp] theorem Work.setMem_claims : (w.setMem m).s.claims = w.s.claims := rfl
@[simp] theorem Work.setMem_ports : (w.setMem m).s.ports = w.s.ports := rfl
@[simp] theorem Work.setMem_mem : (w.setMem m).s.mem = m := rfl
@[simp] theorem Work.setMem_time : (w.setMem m).s.time = w.s.time := rfl
@[simp] theorem Work.setMem_events : (w.setMem m).s.events = w.s.events := rfl
@[simp] theorem Work.setMem_link : (w.setMem m).s.link = w.s.link := rfl
@[simp] theorem Work.setMem_inReset : (w.setMem m).s.inReset = w.s.inReset := rfl
@[simp] theorem Work.setMem_pins : (w.setMem m).s.pins = w.s.pins := rfl
@[simp] theorem Work.setMem_choices : (w.setMem m).s.choices = w.s.choices := rfl
@[simp] theorem Work.setMem_pending : (w.setMem m).s.pending = w.s.pending := rfl
@[simp] theorem Work.setMem_reports : (w.setMem m).reports = w.reports := rfl
@[simp] theorem Work.setMem_again : (w.setMem m).again = w.again := rfl

end setMem

/-! ## setWaiting -/

section setWaiting
variable (w : Work) (p : Port) (t : Option Transfer)

@[simp] theorem Work.setWaiting_table : (w.setWaiting p t).s.table = w.s.table := rfl
@[simp] theorem Work.setWaiting_snaps : (w.setWaiting p t).s.snaps = w.s.snaps := rfl
@[simp] theorem Work.setWaiting_recs : (w.setWaiting p t).s.recs = w.s.recs := rfl
@[simp] theorem Work.setWaiting_queue : (w.setWaiting p t).s.queue = w.s.queue := rfl
@[simp] theorem Work.setWaiting_claims : (w.setWaiting p t).s.claims = w.s.claims := rfl
@[simp] theorem Work.setWaiting_ports : (w.setWaiting p t).s.ports = w.s.ports := rfl
@[simp] theorem Work.setWaiting_mem : (w.setWaiting p t).s.mem = { w.s.mem with waiting := w.s.mem.waiting.set p t } := rfl
@[simp] theorem Work.setWaiting_time : (w.setWaiting p t).s.time = w.s.time := rfl
@[simp] theorem Work.setWaiting_events : (w.setWaiting p t).s.events = w.s.events := rfl
@[simp] theorem Work.setWaiting_link : (w.setWaiting p t).s.link = w.s.link := rfl
@[simp] theorem Work.setWaiting_inReset : (w.setWaiting p t).s.inReset = w.s.inReset := rfl
@[simp] theorem Work.setWaiting_pins : (w.setWaiting p t).s.pins = w.s.pins := rfl
@[simp] theorem Work.setWaiting_choices : (w.setWaiting p t).s.choices = w.s.choices := rfl
@[simp] theorem Work.setWaiting_pending : (w.setWaiting p t).s.pending = w.s.pending := rfl
@[simp] theorem Work.setWaiting_reports : (w.setWaiting p t).reports = w.reports := rfl
@[simp] theorem Work.setWaiting_again : (w.setWaiting p t).again = w.again := rfl

end setWaiting

/-! ## setWaitingCommit -/

section setWaitingCommit
variable (w : Work) (t : Option Transfer)

@[simp] theorem Work.setWaitingCommit_table : (w.setWaitingCommit t).s.table = w.s.table := rfl
@[simp] theorem Work.setWaitingCommit_snaps : (w.setWaitingCommit t).s.snaps = w.s.snaps := rfl
@[simp] theorem Work.setWaitingCommit_recs : (w.setWaitingCommit t).s.recs = w.s.recs := rfl
@[simp] theorem Work.setWaitingCommit_queue : (w.setWaitingCommit t).s.queue = w.s.queue := rfl
@[simp] theorem Work.setWaitingCommit_claims : (w.setWaitingCommit t).s.claims = w.s.claims := rfl
@[simp] theorem Work.setWaitingCommit_ports : (w.setWaitingCommit t).s.ports = w.s.ports := rfl
@[simp] theorem Work.setWaitingCommit_mem : (w.setWaitingCommit t).s.mem = { w.s.mem with waitingCommit := t } := rfl
@[simp] theorem Work.setWaitingCommit_time : (w.setWaitingCommit t).s.time = w.s.time := rfl
@[simp] theorem Work.setWaitingCommit_events : (w.setWaitingCommit t).s.events = w.s.events := rfl
@[simp] theorem Work.setWaitingCommit_link : (w.setWaitingCommit t).s.link = w.s.link := rfl
@[simp] theorem Work.setWaitingCommit_inReset : (w.setWaitingCommit t).s.inReset = w.s.inReset := rfl
@[simp] theorem Work.setWaitingCommit_pins : (w.setWaitingCommit t).s.pins = w.s.pins := rfl
@[simp] theorem Work.setWaitingCommit_choices : (w.setWaitingCommit t).s.choices = w.s.choices := rfl
@[simp] theorem Work.setWaitingCommit_pending : (w.setWaitingCommit t).s.pending = w.s.pending := rfl
@[simp] theorem Work.setWaitingCommit_reports : (w.setWaitingCommit t).reports = w.reports := rfl
@[simp] theorem Work.setWaitingCommit_again : (w.setWaitingCommit t).again = w.again := rfl

end setWaitingCommit

/-! ## setInFlight -/

section setInFlight
variable (w : Work) (f : Option InFlight)

@[simp] theorem Work.setInFlight_table : (w.setInFlight f).s.table = w.s.table := rfl
@[simp] theorem Work.setInFlight_snaps : (w.setInFlight f).s.snaps = w.s.snaps := rfl
@[simp] theorem Work.setInFlight_recs : (w.setInFlight f).s.recs = w.s.recs := rfl
@[simp] theorem Work.setInFlight_queue : (w.setInFlight f).s.queue = w.s.queue := rfl
@[simp] theorem Work.setInFlight_claims : (w.setInFlight f).s.claims = w.s.claims := rfl
@[simp] theorem Work.setInFlight_ports : (w.setInFlight f).s.ports = w.s.ports := rfl
@[simp] theorem Work.setInFlight_mem : (w.setInFlight f).s.mem = { w.s.mem with inFlight := f } := rfl
@[simp] theorem Work.setInFlight_time : (w.setInFlight f).s.time = w.s.time := rfl
@[simp] theorem Work.setInFlight_events : (w.setInFlight f).s.events = w.s.events := rfl
@[simp] theorem Work.setInFlight_link : (w.setInFlight f).s.link = w.s.link := rfl
@[simp] theorem Work.setInFlight_inReset : (w.setInFlight f).s.inReset = w.s.inReset := rfl
@[simp] theorem Work.setInFlight_pins : (w.setInFlight f).s.pins = w.s.pins := rfl
@[simp] theorem Work.setInFlight_choices : (w.setInFlight f).s.choices = w.s.choices := rfl
@[simp] theorem Work.setInFlight_pending : (w.setInFlight f).s.pending = w.s.pending := rfl
@[simp] theorem Work.setInFlight_reports : (w.setInFlight f).reports = w.reports := rfl
@[simp] theorem Work.setInFlight_again : (w.setInFlight f).again = w.again := rfl

end setInFlight

/-! ## setTime -/

section setTime
variable (w : Work) (t : TimeBase)

@[simp] theorem Work.setTime_table : (w.setTime t).s.table = w.s.table := rfl
@[simp] theorem Work.setTime_snaps : (w.setTime t).s.snaps = w.s.snaps := rfl
@[simp] theorem Work.setTime_recs : (w.setTime t).s.recs = w.s.recs := rfl
@[simp] theorem Work.setTime_queue : (w.setTime t).s.queue = w.s.queue := rfl
@[simp] theorem Work.setTime_claims : (w.setTime t).s.claims = w.s.claims := rfl
@[simp] theorem Work.setTime_ports : (w.setTime t).s.ports = w.s.ports := rfl
@[simp] theorem Work.setTime_mem : (w.setTime t).s.mem = w.s.mem := rfl
@[simp] theorem Work.setTime_time : (w.setTime t).s.time = t := rfl
@[simp] theorem Work.setTime_events : (w.setTime t).s.events = w.s.events := rfl
@[simp] theorem Work.setTime_link : (w.setTime t).s.link = w.s.link := rfl
@[simp] theorem Work.setTime_inReset : (w.setTime t).s.inReset = w.s.inReset := rfl
@[simp] theorem Work.setTime_pins : (w.setTime t).s.pins = w.s.pins := rfl
@[simp] theorem Work.setTime_choices : (w.setTime t).s.choices = w.s.choices := rfl
@[simp] theorem Work.setTime_pending : (w.setTime t).s.pending = w.s.pending := rfl
@[simp] theorem Work.setTime_reports : (w.setTime t).reports = w.reports := rfl
@[simp] theorem Work.setTime_again : (w.setTime t).again = w.again := rfl

end setTime

/-! ## setEvents -/

section setEvents
variable (w : Work) (q : EventQueue)

@[simp] theorem Work.setEvents_table : (w.setEvents q).s.table = w.s.table := rfl
@[simp] theorem Work.setEvents_snaps : (w.setEvents q).s.snaps = w.s.snaps := rfl
@[simp] theorem Work.setEvents_recs : (w.setEvents q).s.recs = w.s.recs := rfl
@[simp] theorem Work.setEvents_queue : (w.setEvents q).s.queue = w.s.queue := rfl
@[simp] theorem Work.setEvents_claims : (w.setEvents q).s.claims = w.s.claims := rfl
@[simp] theorem Work.setEvents_ports : (w.setEvents q).s.ports = w.s.ports := rfl
@[simp] theorem Work.setEvents_mem : (w.setEvents q).s.mem = w.s.mem := rfl
@[simp] theorem Work.setEvents_time : (w.setEvents q).s.time = w.s.time := rfl
@[simp] theorem Work.setEvents_events : (w.setEvents q).s.events = q := rfl
@[simp] theorem Work.setEvents_link : (w.setEvents q).s.link = w.s.link := rfl
@[simp] theorem Work.setEvents_inReset : (w.setEvents q).s.inReset = w.s.inReset := rfl
@[simp] theorem Work.setEvents_pins : (w.setEvents q).s.pins = w.s.pins := rfl
@[simp] theorem Work.setEvents_choices : (w.setEvents q).s.choices = w.s.choices := rfl
@[simp] theorem Work.setEvents_pending : (w.setEvents q).s.pending = w.s.pending := rfl
@[simp] theorem Work.setEvents_reports : (w.setEvents q).reports = w.reports := rfl
@[simp] theorem Work.setEvents_again : (w.setEvents q).again = w.again := rfl

end setEvents

/-! ## setLink -/

section setLink
variable (w : Work) (l : Link)

@[simp] theorem Work.setLink_table : (w.setLink l).s.table = w.s.table := rfl
@[simp] theorem Work.setLink_snaps : (w.setLink l).s.snaps = w.s.snaps := rfl
@[simp] theorem Work.setLink_recs : (w.setLink l).s.recs = w.s.recs := rfl
@[simp] theorem Work.setLink_queue : (w.setLink l).s.queue = w.s.queue := rfl
@[simp] theorem Work.setLink_claims : (w.setLink l).s.claims = w.s.claims := rfl
@[simp] theorem Work.setLink_ports : (w.setLink l).s.ports = w.s.ports := rfl
@[simp] theorem Work.setLink_mem : (w.setLink l).s.mem = w.s.mem := rfl
@[simp] theorem Work.setLink_time : (w.setLink l).s.time = w.s.time := rfl
@[simp] theorem Work.setLink_events : (w.setLink l).s.events = w.s.events := rfl
@[simp] theorem Work.setLink_link : (w.setLink l).s.link = l := rfl
@[simp] theorem Work.setLink_inReset : (w.setLink l).s.inReset = w.s.inReset := rfl
@[simp] theorem Work.setLink_pins : (w.setLink l).s.pins = w.s.pins := rfl
@[simp] theorem Work.setLink_choices : (w.setLink l).s.choices = w.s.choices := rfl
@[simp] theorem Work.setLink_pending : (w.setLink l).s.pending = w.s.pending := rfl
@[simp] theorem Work.setLink_reports : (w.setLink l).reports = w.reports := rfl
@[simp] theorem Work.setLink_again : (w.setLink l).again = w.again := rfl

end setLink

/-! ## report and setAgain -/

section Marks
variable (w : Work) (r : Report) (p : Port) (b : Bool)

@[simp] theorem Work.report_s : (w.report r).s = w.s := rfl
@[simp] theorem Work.report_reports : (w.report r).reports = w.reports ++ [r] := rfl
@[simp] theorem Work.report_again : (w.report r).again = w.again := rfl
@[simp] theorem Work.setAgain_s : (w.setAgain p b).s = w.s := rfl
@[simp] theorem Work.setAgain_reports : (w.setAgain p b).reports = w.reports := rfl
@[simp] theorem Work.setAgain_again : (w.setAgain p b).again = w.again.set p b := rfl

end Marks

/-! ## Entries and claim holders -/

section Entries
variable (w : Work) (e f : EntryIndex) (x : Entry) (h : Option Port)

@[simp] theorem Work.setEntry_entry : (w.setEntry e x).s.entry e = x := by
  simp [State.entry]

theorem Work.setEntry_entry_ne (hf : f ≠ e) : (w.setEntry e x).s.entry f = w.s.entry f := by
  have : (e : Nat) ≠ (f : Nat) := fun h => hf (Fin.ext h.symm)
  simp [State.entry, this]

@[simp] theorem Work.setClaim_claims_same : (w.setClaim e h).s.claims[e] = h := by simp

theorem Work.setClaim_claims_ne (hf : f ≠ e) : (w.setClaim e h).s.claims[f] = w.s.claims[f] := by
  have : (e : Nat) ≠ (f : Nat) := fun h => hf (Fin.ext h.symm)
  simp [this]

end Entries

/-! ## A tick that is past, and driving the pins -/

section Pins
variable (s : State)

@[simp] theorem State.pastTick_table : s.pastTick.table = s.table := rfl
@[simp] theorem State.pastTick_snaps : s.pastTick.snaps = s.snaps := rfl
@[simp] theorem State.pastTick_recs : s.pastTick.recs = s.recs := rfl
@[simp] theorem State.pastTick_queue : s.pastTick.queue = s.queue := rfl
@[simp] theorem State.pastTick_claims : s.pastTick.claims = s.claims := rfl
@[simp] theorem State.pastTick_ports : s.pastTick.ports = s.ports := rfl
@[simp] theorem State.pastTick_mem : s.pastTick.mem = s.mem := rfl
@[simp] theorem State.pastTick_events : s.pastTick.events = s.events := rfl
@[simp] theorem State.pastTick_link : s.pastTick.link = s.link := rfl
@[simp] theorem State.pastTick_inReset : s.pastTick.inReset = s.inReset := rfl
@[simp] theorem State.pastTick_pins : s.pastTick.pins = s.pins := rfl
@[simp] theorem State.pastTick_choices : s.pastTick.choices = s.choices := rfl
@[simp] theorem State.pastTick_pending : s.pastTick.pending = s.pending := rfl
@[simp] theorem State.pastTick_time : s.pastTick.time = { s.time with ticked := false } := rfl
@[simp] theorem State.pastTick_pinLevels : s.pastTick.pinLevels = s.pinLevels := rfl

@[simp] theorem State.drivePins_table : s.drivePins.table = s.table := rfl
@[simp] theorem State.drivePins_snaps : s.drivePins.snaps = s.snaps := rfl
@[simp] theorem State.drivePins_recs : s.drivePins.recs = s.recs := rfl
@[simp] theorem State.drivePins_queue : s.drivePins.queue = s.queue := rfl
@[simp] theorem State.drivePins_claims : s.drivePins.claims = s.claims := rfl
@[simp] theorem State.drivePins_ports : s.drivePins.ports = s.ports := rfl
@[simp] theorem State.drivePins_mem : s.drivePins.mem = s.mem := rfl
@[simp] theorem State.drivePins_time : s.drivePins.time = { s.time with ticked := false } := rfl
@[simp] theorem State.drivePins_events : s.drivePins.events = s.events := rfl
@[simp] theorem State.drivePins_link : s.drivePins.link = s.link := rfl
@[simp] theorem State.drivePins_inReset : s.drivePins.inReset = s.inReset := rfl
@[simp] theorem State.drivePins_pins : s.drivePins.pins = s.pinLevels := rfl
@[simp] theorem State.drivePins_choices : s.drivePins.choices = s.choices := rfl
@[simp] theorem State.drivePins_pending : s.drivePins.pending = s.pending := rfl

@[simp] theorem State.drivePins_entry (e : EntryIndex) : s.drivePins.entry e = s.entry e := rfl

end Pins

end Sys2Proof.Machine
end

