-- ==== Sys2Proof/Laws/Ops.lean ====
section
/-! SUPPORT. What each shared operation can do, said once: notices, users and installs, claims, discards, and the end of
an event. -/

namespace Sys2Proof.Machine

open Sys2Proof

/-! ## Notices mark held accesses and do nothing else -/

theorem Work.notify_eq (w : Work) (p : Port) (f : Held → Bool) :
    w.notify p f = if w.s.holds p f = true then w.setAgain p true else w := by
  unfold Work.notify State.holds
  cases (w.s.ports.get p).state <;> simp

@[simp] theorem Work.notify_s (w : Work) (p : Port) (f : Held → Bool) : (w.notify p f).s = w.s := by
  rw [Work.notify_eq]; split <;> rfl

@[simp] theorem Work.notify_reports (w : Work) (p : Port) (f : Held → Bool) :
    (w.notify p f).reports = w.reports := by
  rw [Work.notify_eq]; split <;> rfl

@[simp] theorem Work.notifyBoth_s (w : Work) (f : Held → Bool) : (w.notifyBoth f).s = w.s := by
  simp [Work.notifyBoth]

@[simp] theorem Work.notifyBoth_reports (w : Work) (f : Held → Bool) : (w.notifyBoth f).reports = w.reports := by
  simp [Work.notifyBoth]

theorem Work.notify_quiet {w : Work} {p : Port} {f : Held → Bool} (h : w.s.holds p f = false) : w.notify p f = w := by
  rw [Work.notify_eq, if_neg (by simp [h])]

theorem Work.notifyBoth_quiet {w : Work} {f : Held → Bool} (h : w.s.nobodyHeld f = true) : w.notifyBoth f = w := by
  simp only [State.nobodyHeld, Bool.and_eq_true, Bool.not_eq_true'] at h
  rw [Work.notifyBoth, Work.notify_quiet h.1, Work.notify_quiet h.2]

@[simp] theorem Work.noticeSlot_s (w : Work) (p : Port) : (w.noticeSlot p).s = w.s := Work.notify_s ..
@[simp] theorem Work.noticeRecord_s (w : Work) (p : Port) : (w.noticeRecord p).s = w.s := Work.notify_s ..
@[simp] theorem Work.noticeClaim_s (w : Work) (e : EntryIndex) : (w.noticeClaim e).s = w.s := Work.notifyBoth_s ..
@[simp] theorem Work.noticeTable_s (w : Work) (e : EntryIndex) (x y : Option Content) :
    (w.noticeTable e x y).s = w.s := Work.notifyBoth_s ..
@[simp] theorem Work.noticeOwnCommit_s (w : Work) (p : Port) (e : EntryIndex) : (w.noticeOwnCommit p e).s = w.s := by
  unfold Work.noticeOwnCommit; split <;> simp

@[simp] theorem Work.noticeSlot_reports (w : Work) (p : Port) : (w.noticeSlot p).reports = w.reports :=
  Work.notify_reports ..
@[simp] theorem Work.noticeRecord_reports (w : Work) (p : Port) : (w.noticeRecord p).reports = w.reports :=
  Work.notify_reports ..
@[simp] theorem Work.noticeClaim_reports (w : Work) (e : EntryIndex) : (w.noticeClaim e).reports = w.reports :=
  Work.notifyBoth_reports ..
@[simp] theorem Work.noticeTable_reports (w : Work) (e : EntryIndex) (x y : Option Content) :
    (w.noticeTable e x y).reports = w.reports := Work.notifyBoth_reports ..
@[simp] theorem Work.noticeOwnCommit_reports (w : Work) (p : Port) (e : EntryIndex) :
    (w.noticeOwnCommit p e).reports = w.reports := by
  unfold Work.noticeOwnCommit; split <;> simp

/-! ## Users and installs (R14, R15, R22) -/

/-- A new entry takes the place of the old one, without a claim holder; nothing else of the state changes. -/
theorem Work.reseat_s (w : Work) (e : EntryIndex) (x : Entry) :
    (w.reseat e x).s = (w.s.withEntry e x).withClaim e none := by
  simp [Work.reseat]; rfl

@[simp] theorem Work.reseat_reports (w : Work) (e : EntryIndex) (x : Entry) :
    (w.reseat e x).reports = w.reports := by
  simp [Work.reseat]

theorem Work.installReplacement_s (w : Work) (e : EntryIndex) (r : Replacement) :
    (w.installReplacement e r).s = (w.s.withEntry e r.installed).withClaim e none := by
  simp [Work.installReplacement, Work.reseat_s]

theorem Work.join_active {w : Work} {e : EntryIndex} {c : Content} {v : BitVec 16} {u : Nat}
    (h : w.s.entry e = .active c v u) : w.join e = w.setEntry e (.active c v (u + 1)) := by
  simp [Work.join, h]

theorem Work.leave_active {w : Work} {e : EntryIndex} {c : Content} {v : BitVec 16} {u : Nat}
    (h : w.s.entry e = .active c v u) : w.leave e = w.setEntry e (.active c v (u - 1)) := by
  simp [Work.leave, h]

theorem Work.leave_draining {w : Work} {e : EntryIndex} {c : Content} {v : BitVec 16} {u : Nat} {r : Replacement}
    (h : w.s.entry e = .draining c v u r) (hu : 2 ≤ u) : w.leave e = w.setEntry e (.draining c v (u - 1) r) := by
  simp only [Work.leave, h]; rw [if_neg (by omega)]

/-- The leaving that takes a DRAINING entry to no users installs the replacement (R22). -/
theorem Work.leave_last {w : Work} {e : EntryIndex} {c : Content} {v : BitVec 16} {u : Nat} {r : Replacement}
    (h : w.s.entry e = .draining c v u r) (hu : u ≤ 1) : w.leave e = w.installReplacement e r := by
  simp only [Work.leave, h]; rw [if_pos hu]

/-- A leaving only touches the entry, its claim holder, the reports and the marks. -/
theorem Work.leave_cases (w : Work) (e : EntryIndex) :
    (∃ c v u, w.s.entry e = .active c v u ∧ w.leave e = w.setEntry e (.active c v (u - 1)))
      ∨ (∃ c v u r, w.s.entry e = .draining c v u r ∧ 2 ≤ u ∧ w.leave e = w.setEntry e (.draining c v (u - 1) r))
      ∨ (∃ c v u r, w.s.entry e = .draining c v u r ∧ u ≤ 1 ∧ w.leave e = w.installReplacement e r)
      ∨ ((w.s.entry e = .empty ∨ (w.s.entry e).isPoisoned = true) ∧ w.leave e = w) := by
  cases h : w.s.entry e with
  | empty => exact .inr (.inr (.inr ⟨.inl rfl, by simp [Work.leave, h]⟩))
  | active c v u => exact .inl ⟨c, v, u, rfl, Work.leave_active h⟩
  | draining c v u r =>
    by_cases hu : 2 ≤ u
    · exact .inr (.inl ⟨c, v, u, r, rfl, hu, Work.leave_draining h hu⟩)
    · exact .inr (.inr (.inl ⟨c, v, u, r, rfl, by omega, Work.leave_last h (by omega)⟩))
  | poisoned c v r k => exact .inr (.inr (.inr ⟨.inr rfl, by simp [Work.leave, h]⟩))

/-- The version rises on a live entry and on no other (R13). -/
theorem Work.raiseVersion_cases (w : Work) (e : EntryIndex) :
    (∃ c v u, w.s.entry e = .active c v u ∧ w.raiseVersion e = w.setEntry e (.active c (v + 1) u))
      ∨ (∃ c v u r, w.s.entry e = .draining c v u r ∧ w.raiseVersion e = w.setEntry e (.draining c (v + 1) u r))
      ∨ ((w.s.entry e = .empty ∨ (w.s.entry e).isPoisoned = true) ∧ w.raiseVersion e = w) := by
  cases h : w.s.entry e with
  | empty => exact .inr (.inr ⟨.inl rfl, by simp [Work.raiseVersion, h]⟩)
  | active c v u => exact .inl ⟨c, v, u, rfl, by simp [Work.raiseVersion, h]⟩
  | draining c v u r => exact .inr (.inl ⟨c, v, u, r, rfl, by simp [Work.raiseVersion, h]⟩)
  | poisoned c v r k => exact .inr (.inr ⟨.inr rfl, by simp [Work.raiseVersion, h]⟩)

/-! ## Claims and discards (R54, R74, R87, R103) -/

/-- A claim is released exactly where its holder has no record left (R87). -/
theorem Work.releaseClaim_s (w : Work) (p : Port) (e : EntryIndex) :
    (w.releaseClaim p e).s = w.s.claimChecked p e := by
  unfold Work.releaseClaim State.claimChecked
  split
  · simp; rfl
  · rfl

@[simp] theorem Work.releaseClaim_reports (w : Work) (p : Port) (e : EntryIndex) :
    (w.releaseClaim p e).reports = w.reports := by
  unfold Work.releaseClaim; split <;> simp

theorem Work.withdrawFill_eq {w : Work} {p : Port} {e : EntryIndex} (h : w.s.noFillWaits p e = true) :
    w.withdrawFill p e = w := by
  unfold State.noFillWaits at h
  unfold Work.withdrawFill
  split <;> simp_all
  split <;> simp_all

theorem Work.dropSnapshot_none {w : Work} {p : Port} {e : EntryIndex} (h : w.s.snapshotOn p e = none) :
    w.dropSnapshot p e = w := by
  simp [Work.dropSnapshot, h]

theorem Work.dropSnapshot_some {w : Work} {p : Port} {e : EntryIndex} {x : Snapshot}
    (h : w.s.snapshotOn p e = some x) :
    w.dropSnapshot p e =
      (((w.setSnaps p ((w.s.snaps.get p).eraseP fun x => x.entry == e)).withdrawFill p e).noticeSlot p).leave e := by
  simp [Work.dropSnapshot, h]

theorem Work.dropRecord_none {w : Work} {p : Port} {e : EntryIndex} (h : w.s.recordOn p e = none) :
    w.dropRecord p e = w := by
  simp [Work.dropRecord, h]

theorem Work.dropRecord_some {w : Work} {p : Port} {e : EntryIndex} {r : OpenRecord}
    (h : w.s.recordOn p e = some r) :
    w.dropRecord p e =
      (((w.setRecs p ((w.s.recs.get p).eraseP fun r => r.entry == e)).noticeRecord p).releaseClaim p e).leave e := by
  simp [Work.dropRecord, h]

theorem Work.withdraw_none {w : Work} {p : Port} (h : w.s.mem.waiting.get p = none) : w.withdraw p = w := by
  simp [Work.withdraw, h]

/-! ## Strobes of memory and periods of CLK -/

/-- A strobe sampled while MREQn stands asserted meets the attempt in flight, if any. -/
@[simp] theorem State.attemptMet_true (s : State) (m : BitVec 2) : s.attemptMet ⟨true, m⟩ = s.mem.inFlight := rfl

/-- A strobe sampled with MREQn released meets none. -/
@[simp] theorem State.attemptMet_false (s : State) (m : BitVec 2) : s.attemptMet ⟨false, m⟩ = none := rfl

/-- A period of CLK is counted, within the setting of the period under way, or nothing happens; a tick before it is past. -/
theorem State.clockPeriod_cases (s : State) :
    s.clockPeriod = s.pastTick
      ∨ (s.time.count < s.time.underWay
          ∧ s.clockPeriod = { s.pastTick with time := { s.pastTick.time with count := s.time.count + 1 } }) := by
  unfold State.clockPeriod
  split
  · next h => exact .inr ⟨by simp at h; exact h.2, rfl⟩
  · exact .inl rfl

/-! ## The end of an event -/

/-- An event with nothing to report only drives the pins. -/
theorem Work.close_nil {w : Work} (h : w.reports = []) : w.close = w.s.drivePins := by
  simp [Work.close, h, enterReports]

/-- A single report is entered or dropped. -/
theorem Work.close_one {w : Work} {r : Report} (h : w.reports = [r]) :
    w.close = State.drivePins { w.s with events := w.s.events.enter r } := by
  simp [Work.close, h, enterReports, firstReports, draw]

/-- Two reports of different sources enter in one order or the other, by one draw (R159; log 6). -/
theorem Work.close_two {w : Work} {x y : Report} (h : w.reports = [x, y]) (hs : y.source ≠ x.source) :
    w.s.recordedEither x y w.close := by
  have ne : x ≠ y := fun e => hs (e ▸ rfl)
  rcases Nat.mod_two_eq_zero_or_one (Config.freeChoice w.s.choices) with k | k
  · exact .inl (by simp [Work.close, h, enterReports, firstReports, draw, hs, k])
  · exact .inr (by simp [Work.close, h, enterReports, firstReports, draw, hs, k, ne])

/-- Where no access is to be classified again, the event ends at once. -/
theorem Work.finish_quiet {w : Work} (h : w.again = ⟨false, false⟩) : w.finish = w.close := by
  simp [Work.finish, Config.settleFuel, settle, h]

/-- The order in which one report enters makes no difference to its source (R157). -/
@[simp] theorem EventQueue.enter_source (q : EventQueue) (r : Report) (x : Source) :
    q.enter { r with source := x } = q.enter r := rfl

end Sys2Proof.Machine
end

