-- ==== Sys2Proof/Laws/Arrivals.lean ====
section
/-! SUPPORT. Arrivals and classifications, said once: what a taken arrival runs, and which branch of the classification
an access takes. -/

namespace Sys2Proof.Machine

open Sys2Proof

/-- A command that brings an access to a port that takes it is the classification of that access (R26). -/
theorem exec_arrival {i : Instr} {s : State} {p : Port} {a : Access} (h : arrivalOf i s = some (p, a)) :
    exec i s = .next ((s.begin.arrive p).classify p (arrival a)).finish ∧ (s.ports.get p).state = .idle := by
  unfold arrivalOf at h
  split at h <;> try contradiction
  all_goals
    split at h <;> try contradiction
    rename_i hc
    obtain ⟨h1, h2⟩ := hc
    cases h
    have h3 := h2
    simp only [State.takesArrival, Bool.and_eq_true, beq_iff_eq] at h2
    refine ⟨?_, h2.1.2⟩
  · rename_i strobes addr data
    cases strobes <;> simp_all [exec, execPortAArrival]
  · simp_all [exec, execPortBArrival]

/-! An arrival changes the port alone. -/

section Arrive
variable (s : State) (p q : Port) (e : EntryIndex) (w : WordAddr)

@[simp] theorem arrive_reports : (s.begin.arrive p).reports = [] := rfl
@[simp] theorem arrive_again : (s.begin.arrive p).again = ⟨false, false⟩ := rfl
@[simp] theorem arrive_lookup : (s.begin.arrive p).s.lookup w = s.lookup w := rfl
@[simp] theorem arrive_entry : (s.begin.arrive p).s.entry e = s.entry e := rfl
@[simp] theorem arrive_ownsCommit : (s.begin.arrive p).s.ownsCommit q e = s.ownsCommit q e := rfl
@[simp] theorem arrive_snapshotOn : (s.begin.arrive p).s.snapshotOn q e = s.snapshotOn q e := rfl
@[simp] theorem arrive_recordOn : (s.begin.arrive p).s.recordOn q e = s.recordOn q e := rfl
@[simp] theorem arrive_recordsInUse : (s.begin.arrive p).s.recordsInUse q = s.recordsInUse q := rfl
@[simp] theorem arrive_serves (c : Content) (d : Bool) : (s.begin.arrive p).s.serves e c d = s.serves e c d := rfl
@[simp] theorem arrive_snaps : (s.begin.arrive p).s.snaps = s.snaps := rfl
@[simp] theorem arrive_recs : (s.begin.arrive p).s.recs = s.recs := rfl
@[simp] theorem arrive_queue : (s.begin.arrive p).s.queue = s.queue := rfl
@[simp] theorem arrive_claims : (s.begin.arrive p).s.claims = s.claims := rfl
@[simp] theorem arrive_mem : (s.begin.arrive p).s.mem = s.mem := rfl

end Arrive

/-- Steps 2 and 3 pass on a live entry (R28, R29). -/
theorem Work.classify_serves {w : Work} {p : Port} {h : Held} {e : EntryIndex} {c : Content} {d : Bool}
    (hl : w.s.lookup h.access.word = some e) (hs : w.s.serves e c d = true) :
    w.classify p h = w.classifyOn p h e c d := by
  unfold State.serves at hs
  split at hs
  · rename_i heq
    simp only [Bool.and_eq_true, Bool.not_eq_true', beq_iff_eq] at hs
    simp [Work.classify, hl, heq, hs.1, hs.2]
  · rename_i heq
    simp only [Bool.and_eq_true, beq_iff_eq] at hs
    simp [Work.classify, hl, heq, hs.1, hs.2]
  · contradiction

/-- A live entry is DRAINING as `serves` says. -/
theorem State.serves_isDraining {s : State} {e : EntryIndex} {c : Content} {d : Bool} (hs : s.serves e c d = true) :
    (s.entry e).isDraining = d := by
  unfold State.serves at hs
  split at hs <;> simp_all [Entry.isDraining]

/-- A port that discards nothing on an entry leaves its users. -/
@[simp] theorem Entry.fewer_zero (x : Entry) : x.fewer 0 = x := by cases x <;> rfl

/-- Discards from an entry one after another take their sum. -/
@[simp] theorem Entry.fewer_fewer (x : Entry) (m n : Nat) : (x.fewer m).fewer n = x.fewer (m + n) := by
  cases x <;> simp [Entry.fewer, Nat.sub_sub]

/-- Steps 4 to 6 for a read (R30, R32). -/
theorem Work.classifyOn_read {w : Work} {p : Port} {h : Held} {e : EntryIndex} {c : Content} {d : Bool}
    (hd : h.access.direction ≠ .write) (hb : h.access.objectBytes c ≠ []) (ho : w.s.ownsCommit p e = false) :
    w.classifyOn p h e c d =
      match c.readPolicy with
      | .snapshot => w.snapshotRead p h e c d
      | .through => w.plain p h (some e) := by
  cases hp : c.readPolicy <;> simp [Work.classifyOn, hd, hb, ho, hp]

/-- Step 7 for a write that passes the writers check of a port without a snapshot on the entry (R33). -/
theorem Work.classifyOn_write {w : Work} {p : Port} {h : Held} {e : EntryIndex} {c : Content} {d : Bool}
    (hs : w.s.serves e c d = true) (hd : h.access.direction = .write) (hb : h.access.objectBytes c ≠ [])
    (hx : w.s.snapshotOn p e = none) (ha : c.allows p = true) :
    w.classifyOn p h e c d =
      match c.writePolicy with
      | .staged => w.stagingWrite p h e c d
      | .through => w.plain p h (some e) := by
  cases hp : c.writePolicy <;>
    simp [Work.classifyOn, hd, hb, Work.dropSnapshot_none hx, ha, State.serves_isDraining hs, hp]

end Sys2Proof.Machine
end

