-- ==== Sys2Proof/Laws/Bytes.lean ====
section
/-! SUPPORT. What lanes, touched bytes, coverages, masks and the words of a burst hold, said once, by membership and by
position. -/

namespace Sys2Proof.Machine

open Sys2Proof

theorem mem_laneList {lanes : BitVec 4} {l : Nat} : l ∈ laneList lanes ↔ l < 4 ∧ lanes.getLsbD l = true := by
  simp [laneList]

/-! ## What an access touches (R2, R6) -/

theorem Access.mem_objectBytes {a : Access} {c : Content} {k : Nat} :
    k ∈ a.objectBytes c ↔ k < c.length ∧ ∃ l ∈ laneList a.lanes, k = 4 * (a.word.toNat - c.base) + l := by
  simp [Access.objectBytes, Access.touches, and_comm, eq_comm]

theorem Access.touchesLead_iff {a : Access} {c : Content} :
    a.touchesLead c = true ↔ ∃ k, c.lead = some k ∧ k ∈ a.objectBytes c := by
  unfold Access.touchesLead
  cases c.lead <;> simp

/-- An entry holds a word when its installed content covers it (R2). -/
theorem Entry.holdsWord_iff {x : Entry} {w : Nat} : x.holdsWord w ↔ coversOpt x.content? w = true := by
  cases x <;> simp [Entry.holdsWord, coversOpt, Entry.content?, Content.covers] <;> exact fun _ => Iff.rfl

/-! ## Coverage and masks (R51, R54, R78) -/

theorem mem_cover {xs ys : List Nat} {k : Nat} : k ∈ cover xs ys ↔ k < 32 ∧ (k ∈ xs ∨ k ∈ ys) := by simp [cover]

theorem Content.covered_iff {c : Content} {xs : List Nat} : c.covered xs = true ↔ ∀ k, k < c.length → k ∈ xs := by
  simp [Content.covered]

theorem Content.written_iff {c : Content} {bytes : List (Option Byte)} :
    c.written bytes = true ↔ ∀ k, k < c.length → ∃ b, bytes[k]? = some (some b) := by
  simp [Content.written, Option.isSome_iff_exists, Option.join_eq_some_iff]

/-! ## Entering lanes into a record (R71) -/

/-- Lanes entered one after another: each at its place after `n`, the others left. -/
theorem enterLanes_get (ls : List Nat) (bytes : List (Option Byte)) (n k : Nat) (d : Word) (h : k < bytes.length) :
    (ls.foldl (fun bs l => bs.set (n + l) (some (byteLane d l))) bytes)[k]? =
      if n ≤ k ∧ k - n ∈ ls then some (some (byteLane d (k - n))) else bytes[k]? := by
  induction ls generalizing bytes with
  | nil => simp
  | cons x xs ih =>
    rw [List.foldl_cons, ih _ (by simpa using h)]
    by_cases hx : n ≤ k ∧ k - n ∈ xs
    · simp [hx.1, hx.2]
    · rw [if_neg hx]
      by_cases hk : k = n + x
      · subst hk; simp [h]
      · rw [List.getElem?_set_ne (Ne.symm hk), if_neg]
        rintro ⟨h1, h2⟩
        rcases List.mem_cons.1 h2 with h2 | h2
        · omega
        · exact hx ⟨h1, h2⟩

@[simp] theorem enterBytes_length (bytes : List (Option Byte)) (c : Content) (a : Access) :
    (enterBytes bytes c a).length = bytes.length := by
  unfold enterBytes
  induction laneList a.lanes generalizing bytes with
  | nil => rfl
  | cons x xs ih => simp [ih]

/-! ## The words of a commit burst (R81) -/

/-- A byte placed on one lane stands there alone. -/
theorem byteLane_onLane (b : Byte) {l m : Nat} (hl : l < 4) (hm : m < 4) :
    byteLane (onLane b m) l = if l = m then b else 0 := by
  interval_cases l <;> interval_cases m <;>
    (ext i hi
     simp [byteLane, onLane, show i < 32 by omega, show 8 + i < 32 by omega, show 16 + i < 32 by omega,
       show 24 + i < 32 by omega, ← BitVec.getLsbD_eq_getElem]
     try first | omega | (intros; exact BitVec.getLsbD_of_ge b _ (by omega)))

theorem byteLane_or (x y : Word) (l : Nat) : byteLane (x ||| y) l = byteLane x l ||| byteLane y l := by
  ext i hi; simp [byteLane]

/-- A word put together lane by lane: an enable for each byte present, and the byte on its lane. -/
theorem commitLanes (bytes : List (Option Byte)) (k : Nat) {l : Nat} (hl : l < 4) (ls : List Nat)
    (hs : ∀ m ∈ ls, m < 4) (x : WriteWord) :
    let y := ls.foldl
      (fun x l =>
        match (bytes[4 * k + l]?).join with
        | some b => { data := x.data ||| onLane b l, lanes := x.lanes ||| laneSet l }
        | none => x) x
    y.lanes.getLsbD l = (x.lanes.getLsbD l || (decide (l ∈ ls) && (bytes[4 * k + l]?).join.isSome))
      ∧ byteLane y.data l = byteLane x.data l ||| if l ∈ ls then ((bytes[4 * k + l]?).join).getD 0 else 0 := by
  induction ls generalizing x with
  | nil => simp
  | cons m ms ih =>
    have hm : m < 4 := hs m (by simp)
    have hms := fun n h => hs n (List.mem_cons_of_mem m h)
    rw [List.foldl_cons]
    obtain ⟨h1, h2⟩ := ih hms (match (bytes[4 * k + m]?).join with
      | some b => { data := x.data ||| onLane b m, lanes := x.lanes ||| laneSet m }
      | none => x)
    refine ⟨h1.trans ?_, h2.trans ?_⟩
    · rcases hb : (bytes[4 * k + m]?).join with _ | b
      · by_cases e : l = m
        · subst e; simp [hb]
        · simp [e]
      · by_cases e : l = m
        · subst e
          have : (laneSet l).getLsbD l = true := by interval_cases l <;> rfl
          simp [hb, this]
        · have : (laneSet m).getLsbD l = false := by
            interval_cases l <;> interval_cases m <;> first | rfl | exact absurd rfl e
          simp [e, this]
    · rcases hb : (bytes[4 * k + m]?).join with _ | b
      · by_cases e : l = m
        · subst e; simp [hb]
        · simp [e]
      · by_cases e : l = m
        · subst e; simp [hb, byteLane_or, byteLane_onLane b hl hl]; split <;> simp [BitVec.or_assoc]
        · simp [e, byteLane_or, byteLane_onLane b hl hm]

/-- One word of a commit burst: the lane of extent byte 4k + l is enabled, with the byte, when the mask holds it. -/
theorem commitWord_lane (bytes : List (Option Byte)) (k : Nat) {l : Nat} (hl : l < 4) :
    (commitWord bytes k).lanes.getLsbD l = (bytes[4 * k + l]?).join.isSome
      ∧ byteLane (commitWord bytes k).data l = ((bytes[4 * k + l]?).join).getD 0 := by
  have h := commitLanes bytes k hl (List.range 4) (by simp) { data := 0, lanes := 0 }
  have z : byteLane 0 l = 0 := by ext i hi; simp [byteLane]
  obtain ⟨h1, h2⟩ := h
  exact ⟨h1.trans (by simp [hl]), h2.trans (by rw [z]; simp [hl])⟩

end Sys2Proof.Machine
end

