-- ==== Sys2Proof/Laws/PerInstr.lean ====
section
/-! SUPPORT. For every command: the frame a well-formed link row carries passes the checks of R169. -/

namespace Sys2Proof.Laws

open Sys2Proof Sys2Proof.Machine

/-- The sum of a list of bytes with one more at its end. -/
theorem sumBytes_concat (l : List Byte) (b : Byte) : sumBytes (l ++ [b]) = sumBytes l + b := by
  induction l with
  | nil => simp [sumBytes]
  | cons x xs ih => simp [sumBytes, ih, BitVec.add_assoc]

/-- A body with its check byte sums to 0 mod 256 (R189). -/
theorem sumBytes_checked (body : List Byte) : sumBytes (body ++ [checkByte body]) = 0 := by
  rw [sumBytes_concat, checkByte]; bv_omega

/-- The frame of a code, a tag and at most 11 arguments is judged sound, and gives them back. -/
theorem judge_requestFrame (code tag : Byte) (args : List Byte) (fits : args.length ≤ 11) :
    judge (requestFrame code tag args) false = if code = 0 then .nop else .taken code tag args := by
  have len : (BitVec.ofNat 8 args.length).toNat = args.length := by
    rw [BitVec.toNat_ofNat]; omega
  have sum := sumBytes_checked (code :: tag :: BitVec.ofNat 8 args.length :: args)
  have whole : (args ++ [checkByte (code :: tag :: BitVec.ofNat 8 args.length :: args)]).take (args.length + 1)
      = args ++ [checkByte (code :: tag :: BitVec.ofNat 8 args.length :: args)] := List.take_of_length_le (by simp)
  simp only [requestFrame, judge, List.cons_append, len, whole, List.length_append, List.length_singleton]
  simp only [List.cons_append] at sum
  rw [if_neg (by simp [Config.maxArgs]; omega), if_neg (by omega), if_neg (by simp [sum])]
  simp

/-- What the family says of one command: where it is a link row and well formed, its frame passes the checks. -/
def FrameSound.Statement (i : Instr) : Prop :=
  ∀ code tag args, frameOf i = some (code, tag, args) → i.wellFormed = true →
    judge (requestFrame code tag args) false = if code = 0 then .nop else .taken code tag args

/-- A command whose well-formedness bounds its arguments has a sound frame. -/
theorem frameSound_of_fits {i : Instr} (h : ∀ c t a, frameOf i = some (c, t, a) → i.wellFormed = true → a.length ≤ 11) :
    FrameSound.Statement i :=
  fun c t a hf hw => judge_requestFrame c t a (h c t a hf hw)

theorem FrameSound.deviceReset : FrameSound.Statement (Instr.deviceReset) :=
  fun _ _ _ h => nomatch h

theorem FrameSound.deviceResetRelease : FrameSound.Statement (Instr.deviceResetRelease) :=
  fun _ _ _ h => nomatch h

theorem FrameSound.portReset (p : Port) : FrameSound.Statement (Instr.portReset p) :=
  fun _ _ _ h => nomatch h

theorem FrameSound.portResetRelease (p : Port) : FrameSound.Statement (Instr.portResetRelease p) :=
  fun _ _ _ h => nomatch h

theorem FrameSound.portAArrival (c : Bool) (s : Strobes) (a : ByteAddr) (d : Byte) : FrameSound.Statement (Instr.portAArrival c s a d) :=
  fun _ _ _ h => nomatch h

theorem FrameSound.portBArrival (w : WordAddr) (r : Bool) (e : BitVec 4) (d : Word) : FrameSound.Statement (Instr.portBArrival w r e d) :=
  fun _ _ _ h => nomatch h

theorem FrameSound.strobeRelease (x : StrobeSample) : FrameSound.Statement (Instr.strobeRelease x) :=
  fun _ _ _ h => nomatch h

theorem FrameSound.tick : FrameSound.Statement (Instr.tick) :=
  fun _ _ _ h => nomatch h

theorem FrameSound.snapshotLimitExpiry (p : Port) (e : EntryIndex) : FrameSound.Statement (Instr.snapshotLimitExpiry p e) :=
  fun _ _ _ h => nomatch h

theorem FrameSound.stagingLimitExpiry (p : Port) (e : EntryIndex) : FrameSound.Statement (Instr.stagingLimitExpiry p e) :=
  fun _ _ _ h => nomatch h

theorem FrameSound.holdLimitExpiry (p : Port) : FrameSound.Statement (Instr.holdLimitExpiry p) :=
  fun _ _ _ h => nomatch h

theorem FrameSound.memoryAnswerLimitExpiry : FrameSound.Statement (Instr.memoryAnswerLimitExpiry) :=
  fun _ _ _ h => nomatch h

theorem FrameSound.grant : FrameSound.Statement (Instr.grant) :=
  fun _ _ _ h => nomatch h

theorem FrameSound.memoryReadWord (d : Word) (x : MemoryStrobe) : FrameSound.Statement (Instr.memoryReadWord d x) :=
  fun _ _ _ h => nomatch h

theorem FrameSound.memoryWriteAnswer (x : MemoryStrobe) : FrameSound.Statement (Instr.memoryWriteAnswer x) :=
  fun _ _ _ h => nomatch h

theorem FrameSound.mselnAssert : FrameSound.Statement (Instr.mselnAssert) :=
  fun _ _ _ h => nomatch h

theorem FrameSound.nop (tag : Byte) (args : List Byte) : FrameSound.Statement (Instr.nop tag args) :=
  frameSound_of_fits (by rintro _ _ _ h w; cases h; exact of_decide_eq_true w)

theorem FrameSound.readStatus (tag : Byte) (args : List Byte) : FrameSound.Statement (Instr.readStatus tag args) :=
  frameSound_of_fits (by rintro _ _ _ h w; cases h; exact of_decide_eq_true w)

theorem FrameSound.setTimebase (tag : Byte) (args : List Byte) : FrameSound.Statement (Instr.setTimebase tag args) :=
  frameSound_of_fits (by rintro _ _ _ h w; cases h; exact of_decide_eq_true w)

theorem FrameSound.setHold (tag : Byte) (args : List Byte) : FrameSound.Statement (Instr.setHold tag args) :=
  frameSound_of_fits (by rintro _ _ _ h w; cases h; exact of_decide_eq_true w)

theorem FrameSound.setRetry (tag : Byte) (args : List Byte) : FrameSound.Statement (Instr.setRetry tag args) :=
  frameSound_of_fits (by rintro _ _ _ h w; cases h; exact of_decide_eq_true w)

theorem FrameSound.setAlert (tag : Byte) (args : List Byte) : FrameSound.Statement (Instr.setAlert tag args) :=
  frameSound_of_fits (by rintro _ _ _ h w; cases h; exact of_decide_eq_true w)

theorem FrameSound.writeEntry (tag : Byte) (args : List Byte) : FrameSound.Statement (Instr.writeEntry tag args) :=
  frameSound_of_fits (by rintro _ _ _ h w; cases h; exact of_decide_eq_true w)

theorem FrameSound.deleteEntry (tag : Byte) (args : List Byte) : FrameSound.Statement (Instr.deleteEntry tag args) :=
  frameSound_of_fits (by rintro _ _ _ h w; cases h; exact of_decide_eq_true w)

theorem FrameSound.readEntry (tag : Byte) (args : List Byte) : FrameSound.Statement (Instr.readEntry tag args) :=
  frameSound_of_fits (by rintro _ _ _ h w; cases h; exact of_decide_eq_true w)

theorem FrameSound.clearPoison (tag : Byte) (args : List Byte) : FrameSound.Statement (Instr.clearPoison tag args) :=
  frameSound_of_fits (by rintro _ _ _ h w; cases h; exact of_decide_eq_true w)

theorem FrameSound.peekEvents (tag : Byte) (args : List Byte) : FrameSound.Statement (Instr.peekEvents tag args) :=
  frameSound_of_fits (by rintro _ _ _ h w; cases h; exact of_decide_eq_true w)

theorem FrameSound.ackEvents (tag : Byte) (args : List Byte) : FrameSound.Statement (Instr.ackEvents tag args) :=
  frameSound_of_fits (by rintro _ _ _ h w; cases h; exact of_decide_eq_true w)

theorem FrameSound.flush (tag : Byte) (args : List Byte) : FrameSound.Statement (Instr.flush tag args) :=
  frameSound_of_fits (by rintro _ _ _ h w; cases h; exact of_decide_eq_true w)

theorem FrameSound.unknownCommand (code tag : Byte) (args : List Byte) :
    FrameSound.Statement (Instr.unknownCommand code tag args) :=
  frameSound_of_fits
    (by rintro _ _ _ h w; cases h; simp [Instr.wellFormed, argsFit] at w; exact w.1.1)

theorem FrameSound.requestCompletion : FrameSound.Statement (Instr.requestCompletion) :=
  fun _ _ _ h => nomatch h

theorem FrameSound.discardedFrame (mdi : List Bool) : FrameSound.Statement (Instr.discardedFrame mdi) :=
  fun _ _ _ h => nomatch h

end Sys2Proof.Laws
end

