-- ==== Sys2Proof/Tests/Slice0.lean ====
section
/-! SUPPORT. Tests: ill-formed commands refused, the spec's own examples step by step, and for every statement with
hypotheses a state that meets them. Expected values come from the spec's text; each section names it. -/

namespace Sys2Proof.Tests

open Sys2Proof Sys2Proof.Machine

/-! ## Small states -/

/-- The state a command leaves. -/
def after (i : Instr) (s : State) : State :=
  match exec i s with
  | .next t => t
  | _ => s

/-- Entry 3 of the spec's examples (01, 10 section 10.4). -/
def object : Content :=
  { base := 1000, length := 10, order := .leadHigh, readPolicy := .snapshot, writePolicy := .staged, claim := .shared,
    stray := .fault, writers := .b, snapshotLimit := 500, stagingLimit := 200 }

/-- The same object under ANY, written by both ports, EXCLUSIVE. -/
def shared : Content := { object with order := .any, writers := .ab, claim := .exclusive }

/-- The smallest object. -/
def small : Content := { shared with length := 2, claim := .shared }

/-- A state whose table holds one entry, entry 3. -/
def one (x : Entry) : State := State.reset.withEntry 3 x

/-- Entry 3 ACTIVE. -/
def live (c : Content) (users : Nat) : State := one (.active c 0 users)

/-- Entry 3 DRAINING toward a delete. -/
def drains (c : Content) (users : Nat) : State := one (.draining c 0 users .delete)

/-- A limit timer. -/
def timer (limit counted : Nat) : Timer := { limit := limit, counted := counted }

/-- An OPEN snapshot on an entry. -/
def snap (e : EntryIndex) (coverage : List Nat) (counted : Nat) : Snapshot :=
  { entry := e, state := .opened [1, 2, 3] coverage (timer 500 counted) }

/-- An OPEN record on entry 3. -/
def record (bytes : List (Option Byte)) (counted : Nat) : OpenRecord :=
  { entry := 3, bytes := bytes, timer := timer 200 counted }

/-- The bytes of a record on entry 3 with every byte but the first staged. -/
def allButFirst : List (Option Byte) := none :: List.replicate 11 (some 0)

/-- Twelve bytes not yet written. -/
def unwritten : List (Option Byte) := List.replicate 12 none

/-- A record in the commit queue. -/
def queuedOn (p : Port) (e : EntryIndex) : CommitRecord := { port := p, entry := e, bytes := List.replicate 12 (some 1) }

/-- Port A reads a byte. -/
def readA (addr : ByteAddr) : Instr := .portAArrival true .read addr 0

/-- What it captures. -/
def readOf (addr : ByteAddr) : Access := captureA .read addr 0 2000

/-- Port B writes lanes of a word. -/
def writeB (word : WordAddr) (lanes : BitVec 4) : Instr := .portBArrival word true lanes 0x44332211

/-- What it captures. -/
def writeOf (word : WordAddr) (lanes : BitVec 4) : Access := captureB word true lanes 0x44332211 2000

/-- A HELD access. -/
def heldOf (a : Access) (cause : HoldCause) (counted : Nat) : Held :=
  { access := a, cause := cause, entry := some 3, timer := timer 2000 counted, released := false }

/-- A transfer in flight at its first attempt. -/
def flight (t : Transfer) (allowance : Nat) (counted : Nat) : InFlight :=
  { transfer := t, allowance := allowance, attempts := 1, taken := [], timer := timer 16 counted, orphan := false }

/-- The plain read of byte 4000 by port A. -/
def plainA : Transfer := plainTransfer .a (readOf 4000) none

/-- The plain write of word 1003, lane 0, by port B. -/
def plainB : Transfer := plainTransfer .b (writeOf 1003 1) none

/-- The fill of entry 3 that port A's read of byte 4009 asks for. -/
def fillA : Transfer := fillTransfer .a (readOf 4009) 3 object

/-- An access of port A IN_TRANSFER. -/
def running (a : Access) : PortState := .inTransfer { access := a, released := false, flushed := false }

/-- Entry 3 DRAINING toward another content. -/
def replacing (c d : Content) (users : Nat) : State := one (.draining c 0 users (.content d))

/-- The state of `object` with no other user, on its way to EMPTY or to the same object under ANY, written by both. -/
def lastUser : List State := [drains object 1, replacing object { shared with claim := .shared } 1]

/-- A port's HELD access. -/
def holding (s : State) (p : Port) (a : Access) (cause : HoldCause) : State :=
  s.withPort p (.held (heldOf a cause 7))

/-- Port B's read of word 1002, lane 1: byte 9, the lead byte of `object`. -/
def readOfB : Access := captureB 1002 false 2 0 2000

/-- A record of the event queue. -/
def event (k : Nat) : EventRecord :=
  { sequence := BitVec.ofNat 16 k, kind := .flushed, port := some .a, entry := none, address := none,
    detail := some 0, dropped := none }

/-! ## Ill-formed commands (Sys2Proof/WellFormed.lean) -/

theorem test_wellFormed_refuses_args : (Instr.flush 0 (List.replicate 12 0)).wellFormed = false := by decide
theorem test_wellFormed_refuses_known_code : (Instr.unknownCommand 16 0 []).wellFormed = false := by decide
theorem test_wellFormed_refuses_code_zero : (Instr.unknownCommand 0 0 []).wellFormed = false := by decide
theorem test_wellFormed_refuses_unknown_args :
    (Instr.unknownCommand 2 0 (List.replicate 12 0)).wellFormed = false := by decide
theorem test_wellFormed_refuses_no_release : (Instr.strobeRelease (.portA true true)).wellFormed = false := by decide
theorem test_wellFormed_refuses_no_edge : (Instr.discardedFrame []).wellFormed = false := by decide

/-! ## Formats: the examples of 10 sections 10.1, 10.4, 10.6 and the reset image of R174 -/

theorem test_image_entry_three : object.image = [232, 3, 0, 10, 10, 8, 244, 1, 200, 0] := by decide
theorem test_image_entry_three_decodes : contentOf [232, 3, 0, 10, 10, 8, 244, 1, 200, 0] = some object := by decide
theorem test_frame_set_retry : requestFrame 18 6 [2] = [18, 6, 1, 2, 229] := by decide
theorem test_frame_write_entry : (requestFrame 32 9 (3 :: object.image)).getLast? = some 5 := by decide
theorem test_image_hold_expired :
    EventRecord.image
      { sequence := 300, kind := .holdExpired, port := some .a, entry := some 5, address := some 4009, detail := some 2,
        dropped := some 2 } = [44, 1, 8, 61, 5, 169, 15, 0, 2, 2] := by decide
theorem test_image_link_error :
    EventRecord.image
      { sequence := 301, kind := .linkError, port := none, entry := none, address := none, detail := some 2,
        dropped := none } = [45, 1, 17, 16, 0, 0, 0, 0, 2, 0] := by decide
theorem test_image_of_reset_slot : State.reset.link.image.bytes = [0, 0, 0, 0] := by decide

/-! ## Lookups and extents: the example of 01 section 1.2 -/

theorem test_extent : object.extent = 3 ∧ object.lead = some 9 := by decide
theorem test_lookup_last_word : (live object 0).lookup 1002 = some 3 ∧ (live object 0).lookup 1003 = none := by decide
theorem test_lookup_touches :
    (readOf 4011).objectBytes object = [] ∧ (readOf 4009).objectBytes object = [9]
      ∧ (writeOf 1002 6).objectBytes object = [9] ∧ (writeOf 1001 15).objectBytes object = [4, 5, 6, 7] := by decide

/-! ## The host ports: the example of 02 section 2.1, row by row -/

theorem test_stray_read :
    (after (readA 4004) (live object 0)).ports.a.state = refusedWith (readOf 4004)
      ∧ ((after (readA 4004) (live object 0)).events.records.map EventRecord.kind) = [.strayRead] := by decide
theorem test_lead_read_opens :
    (after (readA 4009) (live object 0)).entry 3 = .active object 0 1
      ∧ (after (readA 4009) (live object 0)).mem.waiting.a = some fillA := by decide
theorem test_write_denied_drops_snapshot :
    (after (.portAArrival true .write 4000 1) ((live object 1).withSnaps .a [snap 3 [9] 0])).snaps.a = []
      ∧ ((after (.portAArrival true .write 4000 1) ((live object 1).withSnaps .a [snap 3 [9] 0])).events.records.map
          EventRecord.kind) = [.writeDenied] := by decide
theorem test_plain_write_past_extent :
    (after (writeB 1003 1) (live object 0)).mem.waiting.b = some plainB := by decide
theorem test_lead_write_opens_record :
    (after (writeB 1002 2) (live object 0)).recs.b.map (fun r => maskCount r.bytes) = [1]
      ∧ (after (writeB 1002 2) (live object 0)).pins.portB = { backn := false, berrn := true, bd := none } := by decide
theorem test_opener_waits_for_drain :
    (after (readA 4009) (drains object 1)).ports.a.state = heldAs (readOf 4009) .drain (some 3)
      ∧ (after (readA 4009) (drains object 1)).pins.portA.awaitn = false := by decide
theorem test_strobe_release_ends_cycle :
    (after (.strobeRelease (.portA false false)) (after (readA 4004) (live object 0))).ports.a.state = .idle := by decide
theorem test_strobe_release_marks_held :
    ((after (.strobeRelease .portB) (after (writeB 1003 1) (live object 0))).holds .b fun h => h.released) = true := by
  decide

/-! ## The memory port: the example of 05 section 5.2, and R97, R98, R106 -/

theorem test_grant_cycle_after_b :
    ({ State.reset.mem with lastGranted := .port .b, waiting := ⟨some plainA, none⟩,
                            waitingCommit := some (commitTransfer (queuedOn .a 3) object) }).next
      = some (.commit, commitTransfer (queuedOn .a 3) object) := by decide
theorem test_grant_takes_allowance :
    (after .grant (after (readA 4009) (live object 0))).mem.inFlight = some (flight fillA 4 0) := by decide
theorem test_bad_word_retries :
    ((after (.memoryReadWord 0 ⟨true, 2⟩) ((live object 1).withInFlight (some (flight fillA 4 3)))).mem.inFlight.map
      InFlight.attempts) = some 2 := by decide
theorem test_plain_read_answered :
    (after (.memoryReadWord 0x44332211 ⟨true, 1⟩)
      ((State.reset.withPort .a (running (readOf 4001))).withInFlight
        (some (flight (plainTransfer .a (readOf 4001) none) 4 0)))).pins.portA
        = { awaitn := true, aerrn := true, ad := some 0x22 } := by decide
theorem test_write_answer_done :
    (after (.memoryWriteAnswer ⟨true, 0⟩)
      ((State.reset.withPort .b (running (writeOf 1003 1))).withInFlight (some (flight plainB 4 0)))).ports.b.state
        = writtenOk (writeOf 1003 1) := by decide
theorem test_write_answer_fails_last :
    ((after (.memoryWriteAnswer ⟨true, 3⟩)
      ((State.reset.withPort .b (running (writeOf 1003 1))).withInFlight (some (flight plainB 1 0)))).events.records.map
        EventRecord.kind) = [.writeFailed] := by decide

/-- R96: each word of a write burst with its own address and enables; a lane not enabled carries 0 (log 26). -/
theorem test_burst_write_pins :
    let bytes := [some 1, none, none, none] ++ List.replicate 4 none ++ [none, some 9, none, none]
    (after .grant ({ live object 1 with queue := [{ port := .b, entry := 3, bytes := bytes }] } |> fun s =>
      { s with mem := { s.mem with
                        waitingCommit := some (commitTransfer { port := .b, entry := 3, bytes := bytes } object) } })).pins.memory
      = [(1000, 0b1110, 1), (1001, 0b1111, 0), (1002, 0b1101, 0x900)].map fun (x : WordAddr × BitVec 4 × Word) =>
          { mreqn := false, ma := some x.1, mwrn := some false, mlen := some 2, mben := x.2.1, md := some x.2.2 } := by
  decide

/-- R96: MREQn is released between two attempts, and the second read attempt begins at the first word. -/
theorem test_second_attempt_pins :
    (after .memoryAnswerLimitExpiry ((live object 1).withInFlight (some (flight fillA 4 16)))).pins.memory
      = [MemoryPins.released,
         { mreqn := false, ma := some 1000, mwrn := some true, mlen := some 2, mben := 0b1111, md := none }] := by decide

/-- R99: the answer that came together with an expiry taken first is ignored; one to the next attempt is not. -/
theorem test_answer_after_expiry_ignored :
    let s := after .memoryAnswerLimitExpiry ((live object 1).withInFlight (some (flight plainB 2 16)))
    after (.memoryWriteAnswer ⟨false, 0⟩) s = s ∧ s.mem.inFlight.map InFlight.attempts = some 2
      ∧ (after (.memoryWriteAnswer ⟨true, 0⟩) s).mem.inFlight = none := by decide

/-! ## Ticks and limits: the example of 02 section 2.5 (a limit of 3 ticks expires at the third tick) -/

theorem test_third_tick_is_due :
    ((after .tick ((live shared 1).withRecs .a [{ record unwritten 2 with timer := timer 3 2 }])).recs.a.map
      fun r => r.timer.due) = [true] := by decide
theorem test_second_tick_is_not_due :
    ((after .tick ((live shared 1).withRecs .a [{ record unwritten 1 with timer := timer 3 1 }])).recs.a.map
      fun r => r.timer.due) = [false] := by decide
theorem test_staging_expiry :
    ((after (.stagingLimitExpiry .a 3) ((live object 1).withRecs .a [record unwritten 200])).events.records.map
      fun r => (r.kind, r.detail)) = [(.stageExpired, some 0)] := by decide
theorem test_snapshot_expiry :
    ((after (.snapshotLimitExpiry .a 3) ((live object 1).withSnaps .a [snap 3 [9] 500])).events.records.map
      fun r => (r.kind, r.detail)) = [(.snapExpired, some 1)] := by decide
theorem test_hold_expiry :
    ((after (.holdLimitExpiry .a) ((live object 1).withPort .a (.held (heldOf (readOf 4009) .slot 2000)))).events.records.map
      fun r => (r.kind, r.detail)) = [(.holdExpired, some 2)] := by decide
theorem test_answer_expiry :
    ((after .memoryAnswerLimitExpiry ((live object 1).withInFlight (some (flight fillA 4 16)))).mem.inFlight.map
      InFlight.attempts) = some 2 := by decide

/-! ## Resets (R120, R130 to R133, R186) -/

theorem test_port_reset_recorded :
    ((after (.portReset .a) ((live object 1).withSnaps .a [snap 3 [9] 0])).events.records.map
      fun r => (r.kind, r.detail)) = [(.portReset, some 1)]
      ∧ (after (.portReset .a) ((live object 1).withSnaps .a [snap 3 [9] 0])).entry 3 = .active object 0 0 := by decide
/-- R152: the discard of the last user installs, and port B's read, held until the drain ended, opens on the new content. -/
theorem test_port_reset_installs :
    let d : Content := { shared with claim := .shared }
    let s := holding ((one (.draining object 5 1 (.content d))).withSnaps .a [snap 3 [9] 0]) .b readOfB .drain
    (after (.portReset .a) s).entry 3 = .active d 0 1
      ∧ (after (.portReset .a) s).mem.waiting.b = some (fillTransfer .b readOfB 3 d) := by decide
theorem test_port_reset_release_arms :
    (after (.portResetRelease .a) (after (.portReset .a) State.reset)).ports.a = HostPort.reset := by decide
theorem test_device_reset_empties : (after .deviceReset (live object 1)).entry 3 = .empty := by decide
theorem test_device_reset_release :
    (after .deviceResetRelease (after .deviceReset State.reset)) = State.reset := by decide

/-! ## The link: the examples of 09 section 9.3 and 10 section 10.1 -/

theorem test_select_fixes_image : (after .mselnAssert State.reset).pins.mdo = some false := by decide
theorem test_pending_image :
    (after (.setRetry 6 [2]) (after .mselnAssert State.reset)).link.image.bytes = [6, 1, 0, 249] := by decide
theorem test_completed_image :
    (after .requestCompletion (after (.setRetry 6 [2]) (after .mselnAssert State.reset))).link.image.bytes
      = [6, 2, 0, 248] := by decide
theorem test_frame_with_bad_check :
    ((after (.discardedFrame (unpackBytes [18, 6, 1, 2, 228])) (after .mselnAssert State.reset)).events.records.map
      fun r => (r.kind, r.detail)) = [(.linkError, some 2)] := by decide
theorem test_busy_request_discarded :
    ((after (.flush 7 [1]) (after .mselnAssert (after (.setRetry 6 [2]) State.reset))).events.records.map
      fun r => (r.kind, r.detail)) = [(.linkError, some 4)] := by decide
theorem test_nop_while_pending :
    (after (.nop 0 []) (after .mselnAssert (after (.setRetry 6 [2]) State.reset))).events.records = [] := by decide
theorem test_set_timebase_lowest :
    (after (.setTimebase 1 [9]) State.reset).link.status = .badArg
      ∧ (after (.setTimebase 1 [10]) State.reset).time.setting = 10 := by decide
/-- R185: SET_TIMEBASE and the tick it comes together with end alike. -/
theorem test_set_timebase_with_tick :
    let s := { State.reset with time := { setting := 50, underWay := 50, count := 50, ticked := false } }
    (after (.setTimebase 1 [10]) (after .tick s)).time = { setting := 10, underWay := 10, count := 0, ticked := false }
      ∧ (after .tick (after (.setTimebase 1 [10]) s)).time
          = { setting := 10, underWay := 10, count := 0, ticked := true } := by decide

/-- R39: the period under way ends under the old setting, right after reset, and after a tick with anything between. -/
theorem test_set_timebase_alone :
    (after (.setTimebase 1 [10]) State.reset).time = { setting := 10, underWay := 50, count := 0, ticked := false }
      ∧ (after (.setTimebase 1 [10]) (after .mselnAssert (after .tick State.reset))).time.underWay = 50
      ∧ (after (.setTimebase 1 [10]) (after .tick State.reset).clockPeriod).time.underWay = 50 := by decide

/-- R38: at a setting of 50 the 50th period of CLK is the last before the tick. -/
theorem test_clock_period :
    step { State.reset with time := { State.reset.time with count := 49 } }
      = .next { State.reset with time := { State.reset.time with count := 50 } } := rfl
theorem test_set_hold_both :
    (after (.setHold 1 [3, 1, 1]) State.reset).ports.a.holdLimit = 257
      ∧ (after (.setHold 1 [2, 1, 0]) State.reset).ports.a.holdLimit = 2000
      ∧ (after (.setHold 1 [2, 1, 0]) State.reset).ports.b.holdLimit = 1 := by decide
theorem test_set_retry_highest :
    (after (.setRetry 1 [7]) State.reset).mem.retryLimit = 7
      ∧ (after (.setRetry 1 [8]) State.reset).link.status = .badArg := by decide
theorem test_set_alert :
    (after (.setAlert 1 [1, 0]) { State.reset with events := { State.reset.events with records := [event 0] } }).pins.alertn
      = false := by decide
theorem test_read_status_reset :
    (after (.readStatus 7 []) State.reset).link.results
      = [0, 0, 0, 0, 0, 0, 0, 0, 50, 208, 7, 208, 7, 3, 16, 1] := by decide
theorem test_write_entry_installs :
    (after (.writeEntry 9 (3 :: object.image)) State.reset).entry 3 = .active object 0 0 := by decide
theorem test_write_entry_overlap :
    (after (.writeEntry 9 (4 :: object.image)) (live object 0)).link.status = .overlap := by decide
theorem test_delete_entry_drains :
    (after (.deleteEntry 9 [3]) (live object 1)).entry 3 = .draining object 0 1 .delete := by decide
theorem test_read_entry :
    (after (.readEntry 9 [3]) (live object 1)).link.results = [3, 1, 1, 1] ++ object.image ++ [0, 0] := by decide
theorem test_clear_poison :
    (after (.clearPoison 9 [3]) (one (.poisoned object 5 none { port := .b, attempts := 4 }))).entry 3
      = .active object 5 0 := by decide
theorem test_peek_events :
    ((after (.peekEvents 9 [1])
      { State.reset with events := { State.reset.events with records := [event 0, event 1] } }).link.results).length
        = 10 := by decide
theorem test_ack_events :
    (after (.ackEvents 9 [0, 0])
      { State.reset with events := { State.reset.events with records := [event 0, event 1] } }).events.records
        = [event 1] := by decide
theorem test_flush_recorded :
    ((after (.flush 9 [1]) ((live object 1).withSnaps .a [snap 3 [9] 0])).events.records.map
      fun r => (r.kind, r.port, r.detail)) = [(.flushed, some .a, some 1)] := by decide
theorem test_unknown_command : (after (.unknownCommand 2 9 []) State.reset).link.status = .badCommand := by decide

/-! ## No table word spells a command (log 30) -/

theorem test_no_table_word (nbits w : Nat) : decodeTableWord nbits w = none := rfl

/-! ## Witnesses: for every statement with hypotheses, states and operands that meet them, clause by clause -/

theorem witness_StepRunsFrontCommand :
    State.reset.pending = [] ∧ { State.reset with pending := [.tick, .grant] }.pending = .tick :: [.grant]
      ∧ State.reset.inReset = false ∧ State.reset.time.count < State.reset.time.underWay
      ∧ { State.reset with inReset := true }.pending = [] := by decide

theorem witness_ResetLinesFollowed :
    { State.reset with inReset := true }.inReset = true ∧ State.reset.inReset = false
      ∧ ((after (.portReset .a) State.reset).ports.get .a).resetLow = true
      ∧ ((after .deviceReset State.reset).ports.get .b).resetLow = false
      ∧ (after .deviceReset State.reset).inReset = true := by decide

/-- No discard takes a DRAINING entry to no users: each loses fewer than it has, or none. -/
theorem spared_of (s : State) (d : EntryIndex → Nat)
    (h : ∀ e, (s.entry e).isDraining = true → d e < (s.entry e).users ∨ d e = 0) :
    ∀ e c v u r, s.entry e = .draining c v u r → d e < u ∨ d e = 0 := by
  intro e c v u r g
  simpa [g, Entry.isDraining, Entry.users] using h e

/-- Where entry 3 alone holds a content, no two entries share a word. -/
theorem disjoint_of_one (s : State) (h : ∀ e, e ≠ 3 → (s.entry e).reserved = []) : s.disjoint := by
  intro e f n c hc d hd
  by_cases g : e = 3
  · rw [h f fun k => n (g.trans k.symm)] at hd; cases hd
  · rw [h e g] at hc; cases hc

/-- `object` under ANY and SHARED, written by both: the content that replaces it. -/
def anew : Content := { shared with claim := .shared }

/-- Port A's snapshot is the last user of the DRAINING entry 3; port B is as given. -/
def lastOfA (r : Replacement) (b : PortState) : State :=
  ((one (.draining object 0 1 r)).withSnaps .a [snap 3 [9] 0]).withPort .b b

/-- Port B's access, held until the drain ends. -/
def untilDrained (a : Access) : PortState := .held (heldOf a .drain 7)

/-- Port B idle; port B's read going plain; port B's read, and write, opening on the new content. -/
def discards : List (Replacement × PortState) :=
  [(.delete, .idle), (.delete, untilDrained readOfB), (.content anew, untilDrained readOfB),
   (.content anew, untilDrained (writeOf 1002 2))]

theorem install_leads_somewhere :
    ∀ x ∈ discards,
      let bare := (((lastOfA x.1 x.2).withSnaps .a []).withRecs .a []).installedAs 3 x.1.installed
      ∃ w, bare.installLeadsTo .b 3 object x.1 w := by
  simp only [discards, List.forall_mem_cons]
  exact
    ⟨⟨_, .inl ⟨by decide, rfl⟩⟩,
     ⟨_, .inr ⟨_, rfl, by decide, by decide, .inl ⟨by decide, rfl⟩⟩⟩,
     ⟨_, .inr ⟨_, rfl, by decide, by decide, .inr ⟨anew, rfl, by decide, .inl ⟨by decide, rfl⟩⟩⟩⟩,
     ⟨_, .inr ⟨_, rfl, by decide, by decide, .inr ⟨anew, rfl, by decide, .inr ⟨by decide, rfl⟩⟩⟩⟩, by simp⟩

/-- An ACTIVE entry, and a DRAINING one that keeps a user. -/
theorem witness_PortResetDiscardsUnfinishedWork :
    ∀ s ∈ [(live object 1).withSnaps .a [snap 3 [9] 0], (drains object 2).withSnaps .a [snap 3 [9] 0]],
      (s.ports.get .a).resetLow = false ∧ s.inReset = false
        ∧ s.holds (Port.other .a) (fun h => h.cause == .claim) = false
        ∧ ∀ e c v u r, s.entry e = .draining c v u r → s.discardsOn .a e < u ∨ s.discardsOn .a e = 0 := by
  simp only [List.forall_mem_cons]
  exact ⟨⟨by decide, by decide, by decide, spared_of _ _ (by decide)⟩,
    ⟨by decide, by decide, by decide, spared_of _ _ (by decide)⟩, by simp⟩

/-- The discard takes the last user; `install_leads_somewhere` says what of port B. -/
theorem witness_PortResetDiscardsUnfinishedWork_install :
    ∀ x ∈ discards,
      let s := lastOfA x.1 x.2
      (s.ports.get .a).resetLow = false ∧ s.inReset = false
        ∧ s.holds (Port.other .a) (fun h => h.cause == .claim) = false
        ∧ s.entry 3 = .draining object 0 1 x.1 ∧ s.discardsOn .a 3 = 1
        ∧ ∀ f, f ≠ 3 → (s.entry f).isDraining = false := by decide

theorem witness_ArrivalCapturesTheAccess :
    (captureA .write 4001 7 2000).direction = .write ∧ (captureA .read 4001 7 2000).direction = .read
      ∧ (6#4).getLsbD 1 = true ∧ (6#4).getLsbD 0 = false ∧ (captureB 1000 false 0 0 1).lanes = 0
      ∧ (captureB 1000 false 0b1000 0 1).address = 4003 := by decide

/-- A word of the extent and the word after it, in a table whose extents are disjoint; a read of the lead byte and one of
padding (the example of 01 section 1.2). -/
theorem witness_ArrivalCapturesTheAccess_lookup :
    (live object 0).disjoint ∧ (live object 0).lookup 1002 = some 3 ∧ (live object 0).lookup 1003 = none
      ∧ ((live object 0).entry 3).holdsWord (1002 : WordAddr).toNat
      ∧ (readOf 4009).touchesLead object = true ∧ (readOf 4011).touchesLead object = false := by
  refine ⟨disjoint_of_one _ (by decide), by decide, by decide, ?_, by decide, by decide⟩
  exact (by decide : 1000 ≤ 1002 ∧ 1002 < 1000 + (10 + 3) / 4)

theorem witness_NoEnabledLaneAnsweredAtOnce : State.reset.takesArrival .b = true := by decide

theorem witness_NoDirectionRefusedAndNoArrivalNoted :
    State.reset.takesArrival .a = true ∧ (after (.portReset .a) State.reset).takesArrival .a = false
      ∧ (after (.portReset .b) State.reset).takesArrival .b = false := by decide

theorem witness_PoisonedEntryRefusesAccess :
    let s := one (.poisoned object 0 none { port := .b, attempts := 4 })
    arrivalOf (readA 4009) s = some (.a, readOf 4009) ∧ s.lookup (readOf 4009).word = some 3
      ∧ s.entry 3 = .poisoned object 0 none { port := .b, attempts := 4 } := by decide

theorem witness_PlainPathAsksForOneWord_no_entry :
    arrivalOf (writeB 1003 1) (live object 0) = some (.b, writeOf 1003 1)
      ∧ (live object 0).lookup (writeOf 1003 1).word = none := by decide

theorem witness_PlainPathAsksForOneWord_write_padding :
    arrivalOf (writeB 1002 12) (live object 0) = some (.b, writeOf 1002 12)
      ∧ (live object 0).lookup (writeOf 1002 12).word = some 3 ∧ (live object 0).serves 3 object false = true
      ∧ (writeOf 1002 12).direction = .write ∧ (live object 0).snapshotOn .b 3 = none
      ∧ (writeOf 1002 12).objectBytes object = [] := by decide

theorem witness_PlainPathAsksForOneWord_write_through :
    let c := { object with writePolicy := .through }
    arrivalOf (writeB 1000 15) (drains c 1) = some (.b, writeOf 1000 15)
      ∧ (drains c 1).lookup (writeOf 1000 15).word = some 3 ∧ (drains c 1).serves 3 c true = true
      ∧ (drains c 1).snapshotOn .b 3 = none ∧ c.allows .b = true ∧ c.writePolicy = .through := by decide

theorem witness_PlainPathAsksForOneWord_read_padding :
    arrivalOf (readA 4011) (live object 0) = some (.a, readOf 4011)
      ∧ (live object 0).lookup (readOf 4011).word = some 3 ∧ (live object 0).serves 3 object false = true
      ∧ (readOf 4011).direction ≠ .write ∧ (readOf 4011).objectBytes object = [] := by decide

theorem witness_PlainPathAsksForOneWord_read_through :
    let c := { object with readPolicy := .through }
    arrivalOf (readA 4009) (live c 0) = some (.a, readOf 4009)
      ∧ (live c 0).lookup (readOf 4009).word = some 3 ∧ (live c 0).serves 3 c false = true
      ∧ (live c 0).ownsCommit .a 3 = false ∧ c.readPolicy = .through := by decide

theorem witness_OwnCommitHoldsRead :
    let s := { live object 1 with queue := [queuedOn .a 3] }
    arrivalOf (readA 4000) s = some (.a, readOf 4000) ∧ s.lookup (readOf 4000).word = some 3
      ∧ s.serves 3 object false = true ∧ (readOf 4000).direction ≠ .write ∧ (readOf 4000).objectBytes object ≠ []
      ∧ s.ownsCommit .a 3 = true := by decide

/-- What the statements about reads that open ask of the state and the access, in a DRAINING entry, with 4 slots in use,
and with 3. -/
theorem witness_OpeningReadTakesSlot :
    let full := (live object 0).withSnaps .a [snap 4 [] 0, snap 5 [] 0, snap 6 [] 0, snap 7 [] 0]
    let room := (live object 0).withSnaps .a [snap 4 [] 0, snap 5 [] 0, snap 6 [] 0]
    (∀ x ∈ [(drains object 1, true), (full, false), (room, false)],
      arrivalOf (readA 4009) x.1 = some (.a, readOf 4009) ∧ x.1.lookup (readOf 4009).word = some 3
        ∧ x.1.serves 3 object x.2 = true ∧ x.1.ownsCommit .a 3 = false ∧ x.1.snapshotOn .a 3 = none)
      ∧ (readOf 4009).direction ≠ .write ∧ (readOf 4009).objectBytes object ≠ [] ∧ object.readPolicy = .snapshot
      ∧ (readOf 4009).opens object = true ∧ 4 ≤ (full.snaps.get .a).length ∧ (room.snaps.get .a).length < 4
      ∧ room.entry 3 = .active object 0 0 := by decide

/-- A read that leaves the coverage short, and the one that fills it, on an ACTIVE and on a DRAINING entry. -/
theorem witness_SnapshotServesReadFromItsData :
    let nine := [0, 1, 2, 3, 4, 5, 6, 7, 9]
    (∀ x ∈ [((live object 1).withSnaps .a [snap 3 [9] 0], false, [9]),
            ((live object 1).withSnaps .a [snap 3 nine 0], false, nine),
            ((drains object 2).withSnaps .a [snap 3 nine 0], true, nine),
            ((drains object 1).withSnaps .a [snap 3 nine 0], true, nine)],
      arrivalOf (readA 4008) x.1 = some (.a, readOf 4008) ∧ x.1.lookup (readOf 4008).word = some 3
        ∧ x.1.serves 3 object x.2.1 = true ∧ x.1.ownsCommit .a 3 = false
        ∧ x.1.snapshotOn .a 3 = some (snap 3 x.2.2 0) ∧ (readOf 4008).restarts object x.2.2 = false
        ∧ x.1.noFillWaits .a 3 = true ∧ x.1.leavesQuietly 3 = true)
      ∧ (readOf 4008).direction ≠ .write ∧ (readOf 4008).objectBytes object ≠ [] ∧ object.readPolicy = .snapshot
      ∧ object.covered (cover [9] ((readOf 4008).objectBytes object)) = false
      ∧ object.covered (cover nine ((readOf 4008).objectBytes object)) = true := by decide

/-- The last word of the data, and a position outside the coverage. -/
theorem witness_SnapshotServesReadFromItsData_data :
    ([1, 2, 3] : List Word)[(readOf 4008).word.toNat - object.base]? = some 3
      ∧ snapshotWord [1, 2, 3] object (readOf 4008) = 3 ∧ cover [9] [8] = [8, 9] := by decide

theorem witness_RestartingReadDiscardsSnapshot :
    (∀ x ∈ [((live object 1).withSnaps .a [snap 3 [9] 0], false), ((drains object 2).withSnaps .a [snap 3 [9] 0], true)],
      arrivalOf (readA 4009) x.1 = some (.a, readOf 4009) ∧ x.1.lookup (readOf 4009).word = some 3
        ∧ x.1.serves 3 object x.2 = true ∧ x.1.ownsCommit .a 3 = false ∧ x.1.snapshotOn .a 3 = some (snap 3 [9] 0)
        ∧ x.1.noFillWaits .a 3 = true)
      ∧ (readOf 4009).direction ≠ .write ∧ (readOf 4009).objectBytes object ≠ [] ∧ object.readPolicy = .snapshot
      ∧ (readOf 4009).restarts object [9] = true
      ∧ ((live object 1).withSnaps .a [snap 3 [9] 0]).entry 3 = .active object 0 1
      ∧ ((drains object 2).withSnaps .a [snap 3 [9] 0]).entry 3 = .draining object 0 2 .delete := by decide

/-- The last user of a DRAINING entry: the read goes plain after the delete, and opens on the new content. -/
theorem witness_RestartingReadDiscardsSnapshot_install :
    (∀ x ∈ lastUser,
      let s := x.withSnaps .a [snap 3 [9] 0]
      arrivalOf (readA 4009) s = some (.a, readOf 4009) ∧ s.lookup (readOf 4009).word = some 3
        ∧ s.serves 3 object true = true ∧ s.ownsCommit .a 3 = false ∧ s.snapshotOn .a 3 = some (snap 3 [9] 0)
        ∧ s.noFillWaits .a 3 = true ∧ s.mem.waiting.get .a = none ∧ s.unconcerned 3 (some object) none = true
        ∧ s.unconcerned 3 (some object) (some { shared with claim := .shared }) = true)
      ∧ (let bare : State → Entry → State := fun x y =>
          ((((x.withSnaps .a [snap 3 [9] 0]).withArrival .a .idle).withSnaps .a []).installedAs 3 y)
        (bare (drains object 1) .empty).lookup (readOf 4009).word = none
          ∧ (bare (replacing object shared 1) (.active shared 0 0)).lookup (readOf 4009).word = some 3
          ∧ (bare (replacing object shared 1) (.active shared 0 0)).readOpens .a (readOf 4009) 3 shared = true) := by
  decide

theorem witness_OwnWriteDiscardsOwnSnapshot :
    let s := (live object 1).withSnaps .b [snap 3 [9] 0]
    arrivalOf (writeB 1002 2) s = some (.b, writeOf 1002 2) ∧ (writeOf 1002 2).direction = .write
      ∧ s.lookup (writeOf 1002 2).word = some 3 ∧ s.keepsContent 3 = true ∧ s.snapshotCount .b 3 = 1
      ∧ s.noFillWaits .b 3 = true := by decide

/-- The last user of a DRAINING entry, its writer named (the write goes plain, or opens on the new content) and not. -/
theorem witness_OwnWriteDiscardsOwnSnapshot_install :
    (∀ x ∈ lastUser,
      let s := x.withSnaps .b [snap 3 [9] 0]
      arrivalOf (writeB 1002 2) s = some (.b, writeOf 1002 2) ∧ s.lookup (writeOf 1002 2).word = some 3
        ∧ s.snapshotCount .b 3 = 1 ∧ s.noFillWaits .b 3 = true ∧ s.mem.waiting.get .b = none
        ∧ s.unconcerned 3 (some object) (some { shared with claim := .shared }) = true)
      ∧ (let s := (drains object 1).withSnaps .a [snap 3 [9] 0]
        let a := captureA .write 4000 1 2000
        arrivalOf (.portAArrival true .write 4000 1) s = some (.a, a) ∧ s.lookup a.word = some 3
          ∧ s.snapshotCount .a 3 = 1 ∧ s.mem.waiting.get .a = none ∧ a.objectBytes object ≠ []
          ∧ object.allows .a = false)
      ∧ object.allows .b = true
      ∧ (let bare : State → Entry → State := fun x y =>
          ((((x.withSnaps .b [snap 3 [9] 0]).withArrival .b .idle).withSnaps .b []).installedAs 3 y)
        (bare (drains object 1) .empty).lookup (writeOf 1002 2).word = none
          ∧ (bare (replacing object shared 1) (.active shared 0 0)).lookup (writeOf 1002 2).word = some 3
          ∧ (bare (replacing object shared 1) (.active shared 0 0)).writeOpens .b (writeOf 1002 2) 3 shared = true) := by
  decide

theorem witness_WriterNotNamedIsDenied :
    let a := captureA .write 4000 1 2000
    arrivalOf (.portAArrival true .write 4000 1) (live object 0) = some (.a, a)
      ∧ (live object 0).lookup a.word = some 3 ∧ (live object 0).serves 3 object false = true ∧ a.direction = .write
      ∧ a.objectBytes object ≠ [] ∧ (live object 0).snapshotOn .a 3 = none ∧ object.allows .a = false := by decide

/-- A DRAINING entry; the claim with the other port; 4 records in use; 3 in use, with a write that completes its record
and with one that does not. -/
theorem witness_OpeningWriteTakesRecord :
    let full := { live shared 0 with queue := [queuedOn .b 4, queuedOn .b 5, queuedOn .b 6, queuedOn .b 7] }
    let room := { live shared 0 with queue := [queuedOn .b 4, queuedOn .b 5, queuedOn .b 6] }
    (∀ x ∈ [(drains shared 1, true), ((live shared 1).withClaim 3 (some .a), false), (full, false), (room, false)],
      arrivalOf (writeB 1000 15) x.1 = some (.b, writeOf 1000 15) ∧ x.1.lookup (writeOf 1000 15).word = some 3
        ∧ x.1.serves 3 shared x.2 = true ∧ x.1.snapshotOn .b 3 = none ∧ x.1.recordOn .b 3 = none)
      ∧ (writeOf 1000 15).direction = .write ∧ (writeOf 1000 15).objectBytes shared ≠ [] ∧ shared.allows .b = true
      ∧ shared.writePolicy = .staged ∧ (writeOf 1000 15).opens shared = true
      ∧ shared.claim = .exclusive ∧ ((live shared 1).withClaim 3 (some .a)).claims[(3 : EntryIndex)] = some .a
      ∧ full.claims[(3 : EntryIndex)] = none ∧ 4 ≤ full.recordsInUse .b ∧ room.recordsInUse .b < 4
      ∧ room.entry 3 = .active shared 0 0
      ∧ shared.written (enterBytes (List.replicate (4 * shared.extent) none) shared (writeOf 1000 15)) = false := by decide

theorem witness_OpeningWriteTakesRecord_complete :
    arrivalOf (writeB 1000 3) (live small 0) = some (.b, writeOf 1000 3)
      ∧ (live small 0).lookup (writeOf 1000 3).word = some 3 ∧ (live small 0).serves 3 small false = true
      ∧ (writeOf 1000 3).objectBytes small ≠ [] ∧ (live small 0).recordOn .b 3 = none
      ∧ (live small 0).snapshotOn .b 3 = none ∧ small.allows .b = true ∧ (writeOf 1000 3).opens small = true
      ∧ (live small 0).entry 3 = .active small 0 0 ∧ (live small 0).recordsInUse .b < 4
      ∧ small.written (enterBytes (List.replicate (4 * small.extent) none) small (writeOf 1000 3)) = true := by decide

/-- Lanes 0 and 2 of the last extent word: extent bytes 8 and 10 of 12, the lead byte 9 left alone. -/
theorem witness_WriteEntersOpenRecord_bytes :
    (writeOf 1002 5).lanes.getLsbD 2 = true ∧ 10 = 4 * ((writeOf 1002 5).word.toNat - object.base) + 2
      ∧ enterBytes unwritten object (writeOf 1002 5)
          = List.replicate 8 none ++ [some 0x11, none, some 0x33, none] := by decide

/-- A write that leaves the mask short, and one that fills it. -/
theorem witness_WriteEntersOpenRecord :
    (∀ bytes ∈ [unwritten, allButFirst],
      let s := (live object 1).withRecs .b [record bytes 0]
      arrivalOf (writeB 1000 1) s = some (.b, writeOf 1000 1) ∧ s.lookup (writeOf 1000 1).word = some 3
        ∧ s.serves 3 object false = true ∧ s.snapshotOn .b 3 = none ∧ s.recordOn .b 3 = some (record bytes 0))
      ∧ (writeOf 1000 1).direction = .write ∧ (writeOf 1000 1).objectBytes object ≠ [] ∧ object.allows .b = true
      ∧ object.writePolicy = .staged ∧ (writeOf 1000 1).touchesLead object = false
      ∧ object.written (enterBytes unwritten object (writeOf 1000 1)) = false
      ∧ object.written (enterBytes allButFirst object (writeOf 1000 1)) = true := by decide

theorem witness_LeadByteRestartsRecord :
    (∀ x ∈ [((live object 1).withRecs .b [record unwritten 0], false),
            ((drains object 2).withRecs .b [record unwritten 0], true)],
      arrivalOf (writeB 1002 2) x.1 = some (.b, writeOf 1002 2) ∧ x.1.lookup (writeOf 1002 2).word = some 3
        ∧ x.1.serves 3 object x.2 = true ∧ x.1.snapshotOn .b 3 = none ∧ x.1.recordOn .b 3 = some (record unwritten 0)
        ∧ x.1.openCount .b 3 = 1 ∧ x.1.nobodyHeld (fun h => h.cause == .claim && h.entry == some 3) = true)
      ∧ (writeOf 1002 2).direction = .write ∧ (writeOf 1002 2).objectBytes object ≠ [] ∧ object.allows .b = true
      ∧ object.writePolicy = .staged ∧ (writeOf 1002 2).touchesLead object = true
      ∧ ((live object 1).withRecs .b [record unwritten 0]).entry 3 = .active object 0 1
      ∧ ((drains object 2).withRecs .b [record unwritten 0]).entry 3 = .draining object 0 2 .delete := by decide

/-- The last user of a DRAINING entry: the write goes plain after the delete, and opens on the new content. -/
theorem witness_LeadByteRestartsRecord_install :
    (∀ x ∈ lastUser,
      let s := x.withRecs .b [record unwritten 0]
      arrivalOf (writeB 1002 2) s = some (.b, writeOf 1002 2) ∧ s.lookup (writeOf 1002 2).word = some 3
        ∧ s.serves 3 object true = true ∧ s.snapshotOn .b 3 = none ∧ s.recordOn .b 3 = some (record unwritten 0)
        ∧ s.openCount .b 3 = 1 ∧ s.mem.waiting.get .b = none
        ∧ s.nobodyHeld (fun h => h.cause == .claim && h.entry == some 3) = true
        ∧ s.unconcerned 3 (some object) (some { shared with claim := .shared }) = true)
      ∧ (let bare : State → Entry → State := fun x y =>
          ((((x.withRecs .b [record unwritten 0]).withArrival .b .idle).withRecs .b []).installedAs 3 y)
        (bare (drains object 1) .empty).lookup (writeOf 1002 2).word = none
          ∧ (bare (replacing object shared 1) (.active shared 0 0)).lookup (writeOf 1002 2).word = some 3
          ∧ (bare (replacing object shared 1) (.active shared 0 0)).writeOpens .b (writeOf 1002 2) 3 shared = true) := by
  decide

/-- A stray read and a stray write, under FAULT and under PASS. -/
theorem witness_StrayAccessFollowsStrayPolicy :
    (∀ c ∈ [object, { object with stray := .pass }],
      arrivalOf (readA 4004) (live c 0) = some (.a, readOf 4004) ∧ (live c 0).lookup (readOf 4004).word = some 3
        ∧ (readOf 4004).objectBytes c ≠ [] ∧ (readOf 4004).opens c = false ∧ (live c 0).snapshotOn .a 3 = none
        ∧ (live c 0).ownsCommit .a 3 = false ∧ c.readPolicy = .snapshot
        ∧ arrivalOf (writeB 1000 15) (live c 0) = some (.b, writeOf 1000 15)
        ∧ (live c 0).lookup (writeOf 1000 15).word = some 3 ∧ (writeOf 1000 15).objectBytes c ≠ []
        ∧ (writeOf 1000 15).opens c = false ∧ (live c 0).snapshotOn .b 3 = none ∧ c.allows .b = true
        ∧ c.writePolicy = .staged ∧ (live c 0).recordOn .b 3 = none ∧ (live c 0).serves 3 c false = true)
      ∧ object.stray = .fault := by decide

theorem witness_StrobeReleaseEndsOrMarks :
    (after .deviceReset State.reset).inReset = true ∧ State.reset.inReset = false
      ∧ ((after (.portReset .b) State.reset).ports.get (sampledPort .portB)).state = .inReset
      ∧ (State.reset.ports.get (sampledPort (.portA false true))).state ≠ .inReset := by decide

theorem witness_TickCountedByRunningTimers :
    { State.reset with inReset := true }.inReset = true
      ∧ ((live object 1).withSnaps .a [snap 3 [9] 498]).inReset = false
      ∧ ((live object 1).withSnaps .a [snap 3 [9] 499]).dues = [] := by decide

/-- A timer not due; one due on an ACTIVE entry; one due with the last user of a DRAINING entry. -/
theorem witness_SnapshotLimitExpiryFreesSlot :
    (∀ x, ((live object 1).withSnaps .a [snap 3 [9] 499]).snapshotOn .a 3 = some x → x.due = false)
      ∧ (∀ s ∈ [(live object 1).withSnaps .a [snap 3 [9] 500], (drains object 1).withSnaps .a [snap 3 [9] 500]],
          s.snapshotOn .a 3 = some (snap 3 [9] 500) ∧ s.noFillWaits .a 3 = true
            ∧ s.holds .a (fun h => h.cause == .slot) = false ∧ s.unconcerned 3 (some object) none = true)
      ∧ (snap 3 [9] 500).due = true
      ∧ ((live object 1).withSnaps .a [snap 3 [9] 500]).keepsContent 3 = true
      ∧ ((drains object 1).withSnaps .a [snap 3 [9] 500]).entry 3 = .draining object 0 1 .delete := by
  refine ⟨fun x h => ?_, by decide⟩
  have e : x = snap 3 [9] 499 := by
    rw [show ((live object 1).withSnaps .a [snap 3 [9] 499]).snapshotOn .a 3 = some (snap 3 [9] 499) by decide] at h
    exact (Option.some.inj h).symm
  subst e; decide

/-- An access of port B held with cause DRAIN: the entry goes EMPTY; a read, and a write, open on the new content. -/
theorem witness_SnapshotLimitExpiryFreesSlot_concerned :
    (∀ x ∈ lastUser, ∀ a ∈ [readOfB, writeOf 1002 2],
      let s := holding (x.withSnaps .a [snap 3 [9] 500]) .b a .drain
      s.snapshotOn .a 3 = some (snap 3 [9] 500) ∧ s.noFillWaits .a 3 = true
        ∧ s.holds .a (fun h => h.cause == .slot) = false ∧ (s.ports.get (Port.other .a)).state = .held (heldOf a .drain 7)
        ∧ s.noFillAsked .b = true ∧ (heldOf a .drain 7).concerned 3 (some object) none = true
        ∧ (s.ports.get .a).state = .idle)
      ∧ (let bare : State → Access → Entry → State := fun x a y =>
          ((holding x .b a .drain).withSnaps .a []).installedAs 3 y
        (bare (drains object 1) readOfB .empty).lookup readOfB.word = none
          ∧ (bare (replacing object shared 1) readOfB (.active shared 0 0)).lookup readOfB.word = some 3
          ∧ (bare (replacing object shared 1) readOfB (.active shared 0 0)).readOpens .b readOfB 3 shared = true
          ∧ (bare (replacing object shared 1) (writeOf 1002 2) (.active shared 0 0)).writeOpens .b (writeOf 1002 2) 3
              shared = true) := by decide

theorem witness_StagingLimitExpiryDiscardsRecord :
    (∀ r, ((live shared 1).withRecs .a [record unwritten 199]).recordOn .a 3 = some r → r.timer.due = false)
      ∧ (let s := ((live shared 1).withRecs .a [record unwritten 200]).withClaim 3 (some .a)
        s.recordOn .a 3 = some (record unwritten 200) ∧ (record unwritten 200).timer.due = true
          ∧ s.keepsContent 3 = true ∧ s.holds .a (fun h => h.cause == .record) = false
          ∧ s.nobodyHeld (fun h => h.cause == .claim && h.entry == some 3) = true) := by
  refine ⟨fun r h => ?_, by decide⟩
  have e : r = record unwritten 199 := by
    rw [show ((live shared 1).withRecs .a [record unwritten 199]).recordOn .a 3 = some (record unwritten 199) by decide] at h
    exact (Option.some.inj h).symm
  subst e; decide

theorem witness_StagingLimitExpiryDiscardsRecord_install :
    let s := ((drains shared 1).withRecs .a [record unwritten 200]).withClaim 3 (some .a)
    s.recordOn .a 3 = some (record unwritten 200) ∧ (record unwritten 200).timer.due = true
      ∧ s.entry 3 = .draining shared 0 1 .delete ∧ s.holds .a (fun h => h.cause == .record) = false
      ∧ s.nobodyHeld (fun h => h.cause == .claim && h.entry == some 3) = true
      ∧ s.unconcerned 3 (some shared) none = true := by decide

/-- A hold not due; one due with no request; one due with its fill waiting. -/
theorem witness_HoldLimitExpiryWithdrawsAccess :
    (State.reset.withPort .a (.held (heldOf (readOf 4009) .slot 1999))).holds .a (fun h => h.timer.due) = false
      ∧ (heldOf (readOf 4009) .memory 2000).timer.due = true
      ∧ ((live object 0).withPort .a (.held (heldOf (readOf 4009) .slot 2000))).mem.waiting.get .a = none
      ∧ (let s := (((live object 1).withPort .a (.held (heldOf (readOf 4009) .memory 2000))).withWaiting .a
          (some fillA)).withSnaps .a [{ entry := 3, state := .filling }]
        (s.ports.get .a).state = .held (heldOf (readOf 4009) .memory 2000) ∧ s.mem.waiting.get .a = some fillA
          ∧ fillA.purpose = .fill .a 4009 3 ∧ s.snapshotOn .a 3 = some { entry := 3, state := .filling }
          ∧ s.keepsContent 3 = true) := by decide

theorem witness_HoldLimitExpiryWithdrawsAccess_install :
    let s := (((drains object 1).withPort .a (.held (heldOf (readOf 4009) .memory 2000))).withWaiting .a
      (some fillA)).withSnaps .a [{ entry := 3, state := .filling }]
    (s.ports.get .a).state = .held (heldOf (readOf 4009) .memory 2000) ∧ s.mem.waiting.get .a = some fillA
      ∧ s.snapshotOn .a 3 = some { entry := 3, state := .filling } ∧ s.entry 3 = .draining object 0 1 .delete
      ∧ s.holds (Port.other .a) (fun g => g.concerned 3 (some object) none) = false := by decide

theorem witness_FreedSlotServesHeldRead :
    let other := { object with base := 2000 }
    let s := (((live object 0).withEntry 4 (.active other 0 1)).withSnaps .a
      [snap 4 [] 500, snap 5 [] 0, snap 6 [] 0, snap 7 [] 0]).withPort .a (.held (heldOf (readOf 4009) .slot 7))
    s.snapshotOn .a 4 = some (snap 4 [] 500) ∧ (snap 4 [] 500).due = true ∧ s.entry 4 = .active other 0 1
      ∧ (s.ports.get .a).state = .held (heldOf (readOf 4009) .slot 7) ∧ s.mem.waiting.get .a = none
      ∧ (s.snaps.get .a).length = 4 ∧ s.lookup (readOf 4009).word = some 3 ∧ s.entry 3 = .active object 0 0
      ∧ s.snapshotOn .a 3 = none ∧ (readOf 4009).direction ≠ .write ∧ (readOf 4009).objectBytes object ≠ []
      ∧ s.ownsCommit .a 3 = false ∧ object.readPolicy = .snapshot ∧ (readOf 4009).opens object = true := by decide

/-- A write that opens its record, and one that completes it at once. -/
theorem witness_ReleasedClaimServesHeldWrite :
    ∀ c ∈ [shared, { small with claim := .exclusive }],
      let h := heldOf (writeOf 1000 15) .claim 7
      let s := (((live c 1).withRecs .a [record unwritten 200]).withClaim 3 (some .a)).withPort .b (.held h)
      s.recordOn .a 3 = some (record unwritten 200) ∧ (record unwritten 200).timer.due = true ∧ s.openCount .a 3 = 1
        ∧ s.ownsCommit .a 3 = false ∧ s.claims[(3 : EntryIndex)] = some .a ∧ s.entry 3 = .active c 0 1
        ∧ s.holds .a (fun h => h.cause == .record || h.cause == .claim) = false
        ∧ (s.ports.get (Port.other .a)).state = .held h ∧ h.cause = .claim ∧ h.entry = some 3
        ∧ s.mem.waiting.get .b = none ∧ s.lookup h.access.word = some 3 ∧ h.access.direction = .write
        ∧ h.access.objectBytes c ≠ [] ∧ s.snapshotOn .b 3 = none ∧ c.allows .b = true ∧ c.writePolicy = .staged
        ∧ c.claim = .exclusive ∧ s.recordOn .b 3 = none ∧ h.access.opens c = true ∧ s.recordsInUse .b < 4 := by decide

/-- Nothing waiting; a transfer in flight; a waiting commit; a port's waiting request. -/
theorem witness_GrantStartsFirstInTheCycle :
    State.reset.mem.next = none ∧ (State.reset.withInFlight (some (flight plainA 4 0))).mem.inFlight ≠ none
      ∧ (let s := (State.reset.withPort .a (.held (heldOf (readOf 4000) .memory 0))).withWaiting .a (some plainA)
        s.mem.inFlight = none ∧ s.mem.next = some (.port .a, plainA)
          ∧ (s.ports.get .a).state = .held (heldOf (readOf 4000) .memory 0))
      ∧ (let m := { State.reset.mem with waitingCommit := some (commitTransfer (queuedOn .a 3) object) }
        m.inFlight = none ∧ m.next = some (.commit, commitTransfer (queuedOn .a 3) object)) := by decide

theorem witness_GoodReadWordIsKept :
    ((live object 1).withInFlight (some (flight fillA 4 0))).mem.inFlight = some (flight fillA 4 0)
      ∧ fillA.isRead = true ∧ (1#2).toNat ≤ 1 ∧ (flight fillA 4 0).taken.length + 1 < fillA.length
      ∧ plainB.isRead = false ∧ State.reset.mem.inFlight = none := by decide

/-- A BAD word, a FAIL answer, an answer limit due, each with an attempt left; and an answer limit not due. -/
theorem witness_FailedAttemptIsMadeAgainWhole :
    (∀ f ∈ [flight fillA 2 16, flight plainB 2 16, flight fillA 2 15],
      ((live object 1).withInFlight (some f)).mem.inFlight = some f ∧ f.attempts < f.allowance)
      ∧ fillA.isRead = true ∧ plainB.isRead = false ∧ 2 ≤ (2#2).toNat ∧ (flight fillA 2 16).timer.due = true
      ∧ (flight fillA 2 15).timer.due = false := by decide

/-- A first and a second attempt, of a read and of a burst write, on the pins. -/
theorem witness_FailedAttemptIsMadeAgainWhole_pins :
    ∀ f ∈ [flight fillA 4 0, { flight (commitTransfer (queuedOn .b 3) object) 4 0 with attempts := 2 }],
      ((live object 1).withInFlight (some f)).drivePins.mem.inFlight = some f
        ∧ ((live object 1).withInFlight (some f)).drivePins.pinsDriven := by
  intro f h; exact ⟨rfl, rfl⟩

/-- A plain read and a plain write, at their first and at a later attempt, and a transfer without its access. -/
theorem witness_PlainTransferSuccessAnswersAccess :
    let read := flight plainA 4 0
    let write := { flight plainB 4 0 with attempts := 2 }
    let s := (State.reset.withPort .a (running (readOf 4000))).withInFlight (some read)
    let t := (State.reset.withPort .b (running (writeOf 1003 1))).withInFlight (some write)
    s.mem.inFlight = some read ∧ plainA.purpose = .plain .a 4000 none ∧ plainA.isRead = true ∧ read.taken = []
      ∧ plainA.length = 1 ∧ read.orphan = false ∧ (s.ports.get .a).state = running (readOf 4000)
      ∧ t.mem.inFlight = some write ∧ plainB.purpose = .plain .b 4012 none ∧ plainB.isRead = false ∧ 2 ≤ write.attempts
      ∧ (t.ports.get .b).state = running (writeOf 1003 1) ∧ { read with orphan := true }.orphan = true := by decide

theorem witness_PlainTransferFailureAnswersWithError :
    let write := flight plainB 1 16
    let t := (State.reset.withPort .b (running (writeOf 1003 1))).withInFlight (some write)
    t.mem.inFlight = some write ∧ plainB.purpose = .plain .b 4012 none ∧ plainB.isRead = false
      ∧ write.allowance ≤ write.attempts ∧ 2 ≤ (2#2).toNat ∧ write.timer.due = true ∧ write.orphan = false
      ∧ (t.ports.get .b).state = running (writeOf 1003 1) ∧ { write with orphan := true }.orphan = true
      ∧ (flight plainA 1 0).transfer.isRead = true := by decide

/-- The last word of a fill: with object bytes left to read, and with none (an object of 2 bytes read by one access). -/
theorem witness_FillSuccessOpensSnapshot :
    let f := { flight fillA 4 0 with taken := [(1, .good), (2, .fixed)] }
    let s := (((live object 1).withSnaps .a [{ entry := 3, state := .filling }]).withPort .a
      (running (readOf 4009))).withInFlight (some f)
    s.mem.inFlight = some f ∧ fillA.purpose = .fill .a 4009 3 ∧ fillA.isRead = true ∧ (1#2).toNat ≤ 1
      ∧ fillA.length = f.taken.length + 1 ∧ f.orphan = false ∧ (s.ports.get .a).state = running (readOf 4009)
      ∧ (readOf 4009).direction = .read ∧ s.snapshotOn .a 3 = some { entry := 3, state := .filling }
      ∧ s.serves 3 object false = true ∧ object.covered ((readOf 4009).objectBytes object) = false := by decide

theorem witness_FillSuccessOpensSnapshot_complete :
    let a := captureB 1000 false 15 0 2000
    let f := flight (fillTransfer .b a 3 small) 4 0
    let s := (((live small 1).withSnaps .b [{ entry := 3, state := .filling }]).withPort .b
      (running a)).withInFlight (some f)
    s.mem.inFlight = some f ∧ f.transfer.purpose = .fill .b 4000 3 ∧ f.transfer.isRead = true
      ∧ f.transfer.length = f.taken.length + 1 ∧ (s.ports.get .b).state = running a ∧ a.direction = .read
      ∧ s.snapshotOn .b 3 = some { entry := 3, state := .filling } ∧ s.serves 3 small false = true
      ∧ small.covered (a.objectBytes small) = true ∧ s.noFillWaits .b 3 = true ∧ s.keepsContent 3 = true := by decide

/-- The last word of a fill whose access has ended, or will end with error; and of one that covers the object of a
DRAINING entry, at the first and at the second attempt. -/
theorem witness_FillSuccessOpensSnapshot_ended :
    let f := { flight fillA 4 0 with taken := [(1, .good), (2, .fixed)], orphan := true }
    let g := { f with orphan := false, attempts := 2 }
    let r : Running := { access := readOf 4009, released := false, flushed := true }
    ((live object 0).withInFlight (some f)).mem.inFlight = some f ∧ f.orphan = true
      ∧ (((live object 0).withPort .a (.inTransfer r)).withInFlight (some g)).mem.inFlight = some g ∧ g.orphan = false
      ∧ (((live object 0).withPort .a (.inTransfer r)).withInFlight (some g)).ports.a.state = .inTransfer r
      ∧ r.flushed = true ∧ fillA.length = g.taken.length + 1 := by decide

theorem witness_FillSuccessOpensSnapshot_install :
    let a := captureB 1000 false 15 0 2000
    ∀ n ∈ [1, 2],
      let f := { flight (fillTransfer .b a 3 small) 4 0 with attempts := n }
      let s := (((drains small 1).withSnaps .b [{ entry := 3, state := .filling }]).withPort .b
        (running a)).withInFlight (some f)
      s.mem.inFlight = some f ∧ f.transfer.length = f.taken.length + 1 ∧ (s.ports.get .b).state = running a
        ∧ s.snapshotOn .b 3 = some { entry := 3, state := .filling } ∧ s.serves 3 small true = true
        ∧ small.covered (a.objectBytes small) = true ∧ s.noFillWaits .b 3 = true ∧ s.leavesQuietly 3 = true
        ∧ s.entry 3 = .draining small 0 1 .delete := by decide

theorem witness_FillFailureFreesSlot :
    let f := flight fillA 1 16
    let s := (((live object 1).withSnaps .a [{ entry := 3, state := .filling }]).withPort .a
      (running (readOf 4009))).withInFlight (some f)
    s.mem.inFlight = some f ∧ fillA.purpose = .fill .a 4009 3 ∧ fillA.isRead = true ∧ f.allowance ≤ f.attempts
      ∧ 2 ≤ (3#2).toNat ∧ f.timer.due = true ∧ f.orphan = false ∧ (s.ports.get .a).state = running (readOf 4009)
      ∧ s.snapshotOn .a 3 = some { entry := 3, state := .filling } ∧ s.noFillWaits .a 3 = true ∧ s.keepsContent 3 = true
      ∧ { f with orphan := true }.orphan = true := by decide

theorem witness_FillFailureFreesSlot_install :
    let f := flight fillA 1 16
    let s := (((drains object 1).withSnaps .a [{ entry := 3, state := .filling }]).withPort .a
      (running (readOf 4009))).withInFlight (some f)
    let r : Running := { access := readOf 4009, released := true, flushed := true }
    s.mem.inFlight = some f ∧ f.allowance ≤ f.attempts ∧ f.timer.due = true
      ∧ s.snapshotOn .a 3 = some { entry := 3, state := .filling } ∧ s.noFillWaits .a 3 = true
      ∧ s.entry 3 = .draining object 0 1 .delete ∧ s.unconcerned 3 (some object) none = true
      ∧ ((s.withSnaps .a []).withPort .a (.inTransfer r)).ports.a.state = .inTransfer r ∧ r.flushed = true := by decide

/-- R81: the last word of a burst whose padding bytes were not written. -/
theorem test_commit_burst_last_word :
    let bytes := (List.range 10).map (fun k => some (BitVec.ofNat 8 k)) ++ [none, none]
    (commitTransfer { port := .b, entry := 3, bytes := bytes } object).writes[2]? = some { data := 0x908, lanes := 3 } := by
  decide

/-- A commit on an ACTIVE entry, alone in the queue, and on a DRAINING entry with another user. -/
theorem witness_CommitSuccessRaisesVersion :
    let f := flight (commitTransfer (queuedOn .b 3) object) 4 0
    (∀ s ∈ [live object 1, drains object 2],
      let t := { s.withInFlight (some f) with queue := [queuedOn .b 3] }
      t.mem.inFlight = some f ∧ t.queue = queuedOn .b 3 :: [] ∧ t.nobodyHeld (fun h => h.cause != .memory) = true)
      ∧ f.transfer.purpose = .commit .b 3 ∧ f.transfer.isRead = false ∧ (0#2).toNat ≤ 1
      ∧ (live object 1).entry 3 = .active object 0 1 ∧ (drains object 2).entry 3 = .draining object 0 2 .delete := by decide

/-- The commit that takes a DRAINING entry to no users, at the first and at the second attempt. -/
theorem witness_CommitSuccessRaisesVersion_install :
    ∀ n ∈ [1, 2],
      let f := { flight (commitTransfer (queuedOn .b 3) object) 4 0 with attempts := n }
      let s := { (drains object 1).withInFlight (some f) with queue := [queuedOn .b 3] }
      s.mem.inFlight = some f ∧ s.queue = queuedOn .b 3 :: [] ∧ s.nobodyHeld (fun h => h.cause != .memory) = true
        ∧ s.entry 3 = .draining object 0 1 .delete ∧ s.unconcerned 3 (some object) none = true := by decide

/-- An access of the record's port held with cause RECORD or OWN_COMMIT: a read that opens, a write that opens, and a read
under THROUGH. -/
theorem witness_CommitSuccessRaisesVersion_held :
    let f := flight (commitTransfer (queuedOn .b 3) object) 4 0
    let through := { object with readPolicy := .through }
    (∀ x ∈ [(object, readOfB, HoldCause.ownCommit), (object, readOfB, .record), (object, writeOf 1002 2, .record),
            (through, readOfB, .ownCommit)],
      let s := { (holding (live x.1 1) .b x.2.1 x.2.2).withInFlight (some f) with queue := [queuedOn .b 3] }
      let raised := { s with queue := [] }.withEntry 3 (.active x.1 1 0)
      s.entry 3 = .active x.1 0 1 ∧ (s.ports.get .b).state = .held (heldOf x.2.1 x.2.2 7)
        ∧ (heldOf x.2.1 x.2.2 7).entry = some 3 ∧ raised.ownsCommit .b 3 = false
        ∧ s.holds (Port.other .b) (fun k => k.cause != .memory) = false ∧ s.mem.waiting.get .b = none
        ∧ raised.lookup x.2.1.word = some 3 ∧ raised.entry 3 = .active x.1 1 0
        ∧ (raised.readOpens .b x.2.1 3 x.1 = true ∨ raised.writeOpens .b x.2.1 3 x.1 = true
            ∨ x.1.readPolicy = .through))
      ∧ readOfB.direction ≠ .write ∧ readOfB.objectBytes through ≠ [] := by decide

/-- The last attempt of a commit, by answer and by limit, on an ACTIVE and on a DRAINING entry. -/
theorem witness_CommitFailurePoisonsEntry :
    let f := flight (commitTransfer (queuedOn .b 3) object) 1 16
    (∀ s ∈ [live object 2, drains object 2],
      let t := { s.withInFlight (some f) with queue := [queuedOn .b 3, queuedOn .a 3] }
      t.mem.inFlight = some f ∧ t.queue = queuedOn .b 3 :: [queuedOn .a 3]
        ∧ (t.ports.get .a).state = .idle ∧ (t.ports.get .b).state = .idle)
      ∧ f.transfer.purpose = .commit .b 3 ∧ f.transfer.isRead = false ∧ f.allowance ≤ f.attempts ∧ f.timer.due = true
      ∧ 2 ≤ (2#2).toNat
      ∧ (live object 2).entry 3 = .active object 0 2 ∧ (drains object 2).entry 3 = .draining object 0 2 .delete := by decide

/-- An access held on a word of the extent, with no request and with its own fill waiting. -/
theorem witness_CommitFailurePoisonsEntry_held :
    let f := flight (commitTransfer (queuedOn .b 3) object) 1 16
    ∀ w ∈ [none, some fillA],
      let s := { ((holding (live object 2) .a (readOf 4009) .memory).withInFlight (some f)).withWaiting .a w with
                 queue := [queuedOn .b 3] }
      s.disjoint ∧ s.entry 3 = .active object 0 2 ∧ (s.ports.get .a).state = .held (heldOf (readOf 4009) .memory 7)
        ∧ s.lookup (readOf 4009).word = some 3 ∧ s.mem.waiting.get .a = w ∧ fillA.purpose = .fill .a 4009 3
        ∧ (s.ports.get (Port.other .a)).state = .idle ∧ s.queue = queuedOn .b 3 :: [] := by
  intro f w hw
  have other : ∀ e : EntryIndex, e ≠ 3 → ((live object 2).entry e).reserved = [] := by decide
  refine ⟨disjoint_of_one _ fun e n => other e n, ?_⟩
  revert w
  decide

theorem witness_GrantedTransferRunsOn :
    ∃ t, exec (.portReset .a) (State.reset.withInFlight (some (flight plainA 4 0))) = .next t
      ∧ (State.reset.withInFlight (some (flight plainA 4 0))).mem.inFlight = some (flight plainA 4 0) :=
  ⟨_, rfl, by decide⟩

theorem witness_EventEnteredOrDropped :
    ((List.range 31).map event).length < 32 ∧ 32 ≤ ((List.range 32).map event).length ∧ 254 ≤ 255 := by decide

theorem witness_AlertFollowsQueueAndPoison :
    State.reset.pinsDriven ∧ (after (.setAlert 1 [1, 1]) (live object 0)).pinsDriven := by
  constructor <;> (unfold State.pinsDriven; decide)

theorem witness_FrameBitsDecodeToTheirRow :
    (Instr.setRetry 6 [2]).wellFormed = true ∧ frameOf (.setRetry 6 [2]) = some (18, 6, [2])
      ∧ (Instr.unknownCommand 255 6 []).wellFormed = true ∧ frameOf (.nop 0 [1]) = some (0, 0, [1]) := by decide

theorem witness_DiscardedFrameOnlyRecordsLinkError :
    State.reset.judgesFrame = true ∧ unpackBytes [18, 6] ≠ []
      ∧ judge (packBits (unpackBytes [18, 6])) State.reset.link.imagePending = .discarded .truncated
      ∧ (after (.setRetry 6 [2]) State.reset).judgesFrame = true
      ∧ (after (.setRetry 6 [2]) State.reset).link.imagePending = true
      ∧ (Instr.flush 7 [1]).wellFormed = true ∧ frameOf (.flush 7 [1]) = some (64, 7, [1]) := by decide

theorem witness_ImageFixedAndNopChangesNothing :
    State.reset.link.select = .high ∧ State.reset.inReset = false
      ∧ (after .deviceReset State.reset).link.select = .high ∧ (after .deviceReset State.reset).inReset = true
      ∧ (after .mselnAssert State.reset).link.select ≠ .high ∧ (Instr.nop 0 [255]).wellFormed = true
      ∧ State.reset.judgesFrame = true ∧ (after .deviceReset State.reset).judgesFrame = false
      ∧ frameOf (.nop 0 [255]) = some (0, 0, [255]) := by decide

theorem witness_UnknownCodeAndWrongLengthRefused :
    State.reset.takesRequest = true ∧ (Instr.unknownCommand 2 9 [1]).wellFormed = true
      ∧ [0, 0].length ≤ 11 ∧ [0, 0].length ≠ argLength .setRetry := by decide

/-- Each setting at the ends of its range and just outside. -/
theorem witness_SettingsWrittenOrRefused :
    (after .mselnAssert (live object 0)).takesRequest = true
      ∧ (10 ≤ (10 : Byte).toNat ∧ (200 : Byte).toNat ≤ 200 ∧ ¬10 ≤ (9 : Byte).toNat ∧ ¬(201 : Byte).toNat ≤ 200)
      ∧ ((7 : Byte).toNat ≤ 7 ∧ ¬(8 : Byte).toNat ≤ 7) ∧ (1 ≤ (1 : Byte).toNat ∧ (32 : Byte).toNat ≤ 32)
      ∧ ¬1 ≤ (0 : Byte).toNat + 256 * (0 : Byte).toNat
      ∧ ((live object 1).withSnaps .a [snap 3 [9] 499]).dues = [] ∧ State.reset.time.ticked = false
      ∧ (after .tick (live object 1)).time.ticked = true ∧ (after .tick (live object 1)).takesRequest = true
      ∧ ((live object 1).withSnaps .a [snap 3 [9] 499]).takesRequest = true := by decide

theorem witness_ReadStatusReturnsStatusImage :
    State.reset.takesRequest = true ∧ (after .mselnAssert (live object 0)).takesRequest = true := by decide

theorem witness_SettingsKeptByOtherCommands :
    (Instr.setRetry 6 [2]).wellFormed = true ∧ ∃ t, exec (.setRetry 6 [2]) State.reset = .next t := ⟨by decide, _, rfl⟩

theorem witness_ReadEntryReturnsEntry :
    State.reset.takesRequest = true ∧ 64 ≤ (64 : Byte).toNat ∧ (63 : Byte).toNat = (63 : EntryIndex).val := by decide

theorem witness_EntryImageRoundTrip :
    object.legal = true ∧ contentOf [232, 3, 0, 10, 10, 8, 244, 1, 200, 0] = some object := by decide

theorem witness_PeekCopiesAndAckRemoves :
    let s := { State.reset with events := { State.reset.events with records := [event 0, event 1] } }
    s.takesRequest = true ∧ s.events.records = [event 0] ++ event 1 :: []
      ∧ (event 1).sequence.toNat = (1 : Byte).toNat + 256 * (0 : Byte).toNat
      ∧ (∀ x ∈ [event 0], x.sequence.toNat ≠ (1 : Byte).toNat + 256 * (0 : Byte).toNat)
      ∧ (∀ x ∈ s.events.records, x.sequence.toNat ≠ (2 : Byte).toNat + 256 * (0 : Byte).toNat) := by decide

/-- The two conditions of R18 that lie beside their boundary, and the sets of bits R193 gives no value. -/
theorem witness_WriteEntryRefusedOrWaits_badArg :
    63 < (64 : Byte).toNat ∧ 1048575 < (0 : Byte).toNat + 256 * (0 : Byte).toNat + 65536 * (16 : Byte).toNat
      ∧ (1 : Byte).toNat < 2 ∧ 32 < (33 : Byte).toNat
      ∧ 1048575 < (255 : Byte).toNat + 256 * (255 : Byte).toNat + 65536 * (15 : Byte).toNat + ((5 : Byte).toNat + 3) / 4 - 1
      ∧ ((3 : Byte).getLsbD 0 = true ∧ (3 : Byte).getLsbD 1 = true)
      ∧ ((6 : Byte).getLsbD 2 = true ∧ (6 : Byte).getLsbD 1 = true)
      ∧ (0 : Byte).toNat + 256 * (0 : Byte).toNat = 0 ∧ 4095 < (0 : Byte).toNat + 256 * (16 : Byte).toNat
      ∧ (3 : Byte).toNat % 4 = 3 ∧ 15 < (16 : Byte).toNat := by decide

/-- The last base with the longest object that fits, a legal content at both ends of its limits; an extent another index
reserves; users; a drain. -/
theorem witness_WriteEntryRefusedOrWaits :
    (contentOf [255, 255, 15, 4, 0, 0, 1, 0, 255, 15]).isSome = true
      ∧ (255 : Byte).toNat + 256 * (255 : Byte).toNat + 65536 * (15 : Byte).toNat + ((4 : Byte).toNat + 3) / 4 - 1 = 1048575
      ∧ (live object 0).takesRequest = true ∧ (4 : Byte).toNat = (4 : EntryIndex).val
      ∧ contentOf [232, 3, 0, 10, 10, 8, 244, 1, 200, 0] = some object ∧ (live object 0).overlapsOther 4 object = true
      ∧ (live object 1).overlapsOther 3 object = false ∧ (live object 1).entry 3 = .active object 0 1
      ∧ (drains object 1).overlapsOther 3 object = false
      ∧ (drains object 1).entry 3 = .draining object 0 1 .delete := by decide

/-- An EMPTY, a user-free ACTIVE and a POISONED entry. -/
theorem witness_WriteEntryInstallsAtOnce :
    (∀ s ∈ [State.reset, live shared 0, one (.poisoned object 0 none { port := .a, attempts := 1 })],
      s.takesRequest = true ∧ s.overlapsOther 3 object = false ∧ s.unconcerned 3 (s.entry 3).content? (some object) = true)
      ∧ (3 : Byte).toNat = (3 : EntryIndex).val ∧ object.image.length = 10 ∧ contentOf object.image = some object
      ∧ object.legal = true ∧ State.reset.entry 3 = .empty ∧ (live shared 0).entry 3 = .active shared 0 0
      ∧ (one (.poisoned object 0 none { port := .a, attempts := 1 })).entry 3
          = .poisoned object 0 none { port := .a, attempts := 1 } := by decide

/-- An access concerned: held on a word the new extent leaves, and a read and a write that open on the new content. -/
theorem witness_WriteEntryInstallsAtOnce_concerned :
    (∀ x ∈ [(readOf 4009, { object with base := 2000 }, none), (readOf 4009, object, some (3 : EntryIndex)),
            (writeOf 1002 2, object, some 3)],
      let p : Port := if x.1.direction = .write then .b else .a
      let s := holding (live shared 0) p x.1 .memory
      let installed := (s.installedAs 3 (.active x.2.1 0 0)).withSlot 9 .ok []
      s.takesRequest = true ∧ s.overlapsOther 3 x.2.1 = false ∧ s.entry 3 = .active shared 0 0
        ∧ (s.ports.get p).state = .held (heldOf x.1 .memory 7) ∧ s.noFillAsked p = true
        ∧ (heldOf x.1 .memory 7).concerned 3 (some shared) (some x.2.1) = true
        ∧ s.holds p.other (fun g => g.concerned 3 (some shared) (some x.2.1)) = false
        ∧ installed.lookup x.1.word = x.2.2
        ∧ (x.2.2 = none ∨ installed.readOpens p x.1 3 x.2.1 = true ∨ installed.writeOpens p x.1 3 x.2.1 = true)) := by
  decide

theorem witness_DeleteEntryActsByEntryState :
    64 ≤ (255 : Byte).toNat ∧ (3 : Byte).toNat = (3 : EntryIndex).val
      ∧ (∀ s ∈ [State.reset, live object 1, live object 0, drains object 1,
                one (.poisoned object 0 none { port := .a, attempts := 1 })],
          s.takesRequest = true ∧ s.unconcerned 3 (s.entry 3).content? none = true)
      ∧ State.reset.entry 3 = .empty ∧ (live object 1).entry 3 = .active object 0 1
      ∧ (live object 0).entry 3 = .active object 0 0 ∧ (drains object 1).entry 3 = .draining object 0 1 .delete := by decide

theorem witness_DeleteEntryActsByEntryState_concerned :
    let s := holding (live object 0) .a (readOf 4011) .memory
    s.entry 3 = .active object 0 0 ∧ (s.ports.get .a).state = .held (heldOf (readOf 4011) .memory 7)
      ∧ s.noFillAsked .a = true ∧ (heldOf (readOf 4011) .memory 7).concerned 3 (some object) none = true
      ∧ s.holds (Port.other .a) (fun g => g.concerned 3 (some object) none) = false
      ∧ (s.installedAs 3 .empty).lookup (readOf 4011).word = none := by decide

theorem witness_ClearPoisonActsByEntryState :
    64 ≤ (64 : Byte).toNat ∧ (3 : Byte).toNat = (3 : EntryIndex).val ∧ State.reset.entry 3 = .empty
      ∧ (live object 1).entry 3 = .active object 0 1 ∧ (drains object 1).entry 3 = .draining object 0 1 .delete
      ∧ (∀ r ∈ [none, some .delete, some (.content shared)],
          let s := one (.poisoned object 0 r { port := .a, attempts := 1 })
          s.takesRequest = true ∧ s.entry 3 = .poisoned object 0 r { port := .a, attempts := 1 }
            ∧ s.unconcerned 3 (some object) (r.bind Replacement.content?) = true
            ∧ s.unconcerned 3 (some object) (some object) = true) := by decide

/-- A clear that concerns a held access: the entry goes EMPTY; a read, and a write, open on the restored content or on the
kept replacement, here one at words of its own, where an access is held for its plain transfer. -/
theorem witness_ClearPoisonActsByEntryState_concerned :
    let far := { anew with base := 2000 }
    ∀ x ∈ [(some Replacement.delete, readOf 4009, none), (none, readOf 4009, some object),
           (none, writeOf 1002 2, some object), (some (.content far), readOf 8001, some far),
           (some (.content far), writeOf 2000 2, some far)],
      let p : Port := if x.2.1.direction = .write then .b else .a
      let s := holding (one (.poisoned object 0 x.1 { port := .a, attempts := 1 })) p x.2.1 .memory
      let content : Option Content := match x.1 with | none => some object | some r => r.content?
      let cleared := (s.installedAs 3 (match x.1 with | none => .active object 0 0 | some r => r.installed)).withSlot 9 .ok []
      s.takesRequest = true ∧ s.entry 3 = .poisoned object 0 x.1 { port := .a, attempts := 1 }
        ∧ (s.ports.get p).state = .held (heldOf x.2.1 .memory 7) ∧ s.noFillAsked p = true
        ∧ (heldOf x.2.1 .memory 7).concerned 3 (some object) content = true
        ∧ s.holds p.other (fun g => g.concerned 3 (some object) content) = false
        ∧ cleared.lookup x.2.1.word = x.2.2.map (fun _ => 3)
        ∧ ∀ d ∈ x.2.2, cleared.entry 3 = .active d 0 0
            ∧ (cleared.readOpens p x.2.1 3 d = true ∨ cleared.writeOpens p x.2.1 3 d = true) := by decide

/-- No discard takes the last user: the port named, the other, and both. -/
theorem witness_FlushEndsAccessesAndDiscards :
    State.reset.takesRequest = true ∧ (0 : Byte).toNat < 1 ∧ 3 < (4 : Byte).toNat ∧ 1 ≤ (1 : Byte).toNat
      ∧ (3 : Byte).toNat ≤ 3 ∧ (1 : Byte).toNat ≠ 2 ∧ (2 : Byte).toNat ≠ 1
      ∧ let s := ((drains object 3).withSnaps .a [snap 3 [9] 0]).withRecs .b [record unwritten 0]
        s.takesRequest = true ∧ (∀ p, s.holds p (fun h => h.cause == .claim) = false)
          ∧ ∀ d ∈ [s.discardsOn .a, s.discardsOn .b, fun e => s.discardsOn .a e + s.discardsOn .b e],
              ∀ e c v u r, s.entry e = .draining c v u r → d e < u ∨ d e = 0 := by
  refine ⟨by decide, by decide, by decide, by decide, by decide, by decide, by decide, by decide,
    fun p => by cases p <;> decide, ?_⟩
  simp only [List.forall_mem_cons]
  exact ⟨spared_of _ _ (by decide), spared_of _ _ (by decide), spared_of _ _ (by decide), by simp⟩

/-- The discards of port A alone, and those of both ports, take the last user; `install_leads_somewhere` says what of port B,
not named. -/
theorem witness_FlushEndsAccessesAndDiscards_install :
    (∀ x ∈ discards,
      let s := lastOfA x.1 x.2
      s.takesRequest = true ∧ s.holds .b (fun h => h.cause == .claim) = false
        ∧ s.entry 3 = .draining object 0 1 x.1 ∧ s.discardsOn .a 3 = 1 ∧ ∀ f, f ≠ 3 → (s.entry f).isDraining = false)
      ∧ let s := ((drains object 2).withSnaps .a [snap 3 [9] 0]).withRecs .b [record unwritten 0]
        s.takesRequest = true ∧ s.entry 3 = .draining object 0 2 .delete ∧ s.discardsOn .a 3 + s.discardsOn .b 3 = 2
          ∧ ∀ f, f ≠ 3 → (s.entry f).isDraining = false := by decide

/-! ### Witnesses of the invariants: port B's record on entry 3 is COMMITTING, port A's read waits for its fill, and
GRANT is at the front of the queue -/

/-- The commit at work. -/
def committing : CommitRecord :=
  { port := .b, entry := 3, bytes := [some 0x11, some 0x22, none, none] }

/-- The state. -/
def sound : State :=
  State.drivePins
    { ((((live small 2).withSnaps .a [{ entry := 3, state := .filling }]).withPort .a
        (.held (heldOf (readOf 4000) .memory 0))).withWaiting .a
          (some (fillTransfer .a (readOf 4000) 3 small))).queued committing small with
      pending := [.grant] }

theorem test_sound_is_reached :
    (after (readA 4000) (after (writeB 1000 3) (live small 0))).queue = sound.queue
      ∧ (after (readA 4000) (after (writeB 1000 3) (live small 0))).snaps = sound.snaps
      ∧ (after (readA 4000) (after (writeB 1000 3) (live small 0))).mem = sound.mem := by decide

theorem witness_StepKeepsQueueSettingsAndPins :
    (∃ t, step sound = .next t) ∧ sound.events.sound ∧ sound.settingsLegal ∧ sound.answersMatched ∧ sound.pinsDriven := by
  refine ⟨⟨_, rfl⟩, ?_, ?_, fun p a ans h => ?_, rfl⟩
  · unfold EventQueue.sound; refine ⟨by decide, trivial, by decide⟩
  · unfold State.settingsLegal; refine ⟨by decide, by decide, by decide, by decide, fun p => ?_, by decide⟩; cases p <;> decide
  · cases p <;> cases h

/-- An answered read and an answered write, with an error and without. -/
theorem witness_StepKeepsQueueSettingsAndPins_answered :
    let s := ((State.reset.withPort .a (refusedWith (readOf 4009))).withPort .b (writtenOk (writeOf 1003 1))).drivePins
    s.answersMatched ∧ s.pinsDriven ∧ (s.ports.get .a).state = refusedWith (readOf 4009)
      ∧ s.pins.portA = { awaitn := true, aerrn := false, ad := some 0xff } := by
  refine ⟨fun p a ans h => ?_, rfl, by decide, by decide⟩
  cases p <;> cases h
  · exact ⟨by decide, fun _ => ⟨_, rfl, fun _ => rfl⟩⟩
  · exact ⟨fun _ => rfl, fun n => absurd rfl n⟩

theorem witness_StepKeepsTableDisjointAndLegal :
    (∃ t, step sound = .next t) ∧ sound.disjoint ∧ sound.contentsLegal := by
  have other : ∀ e : EntryIndex, e ≠ 3 → (sound.entry e).reserved = [] := by decide
  have there : (sound.entry 3).reserved = [small] := by decide
  refine ⟨⟨_, rfl⟩, disjoint_of_one _ other, fun e c hc => ?_⟩
  · by_cases h : e = 3
    · subst h; rw [there] at hc; simp at hc; subst hc; decide
    · rw [other e h] at hc; cases hc

theorem witness_StepKeepsUsersPoolsAndClaims :
    (∃ t, step sound = .next t) ∧ sound.usersExact ∧ sound.drainingUsed ∧ sound.poolsBounded ∧ sound.claimsSound := by
  refine ⟨⟨_, rfl⟩, ?_, ?_, ?_, ?_⟩
  · unfold State.usersExact; decide
  · unfold State.drainingUsed; decide
  · unfold State.poolsBounded; intro p; cases p <;> decide
  · intro e
    have h : sound.claims[e] = none := by revert e; decide
    have g : (sound.entry e).isExclusive = false := by revert e; decide
    rw [g]; simpa using h

theorem witness_StepKeepsPortsAndEngineMatched :
    (∃ t, step sound = .next t) ∧ sound.usersExact ∧ sound.portsMatched ∧ sound.engineMatched := by
  refine ⟨⟨_, rfl⟩, by unfold State.usersExact; decide, fun p => ?_, small, by decide, .inl (by decide)⟩
  cases p
  · refine ⟨by decide, by decide, fun t h => ?_⟩
    have e : t = fillTransfer .a (readOf 4000) 3 small := (Option.some.inj h).symm
    rw [e]
    exact ⟨rfl, _, rfl, rfl⟩
  · exact ⟨by decide, by decide, fun t h => nomatch h⟩

end Sys2Proof.Tests
end

section
/-! PROOFS. READ_ENTRY (R25, R181): the taking of a request whose command leaves the event as it is, the layout of the
result for each state of an entry (R194), and the statement O49. -/

namespace Sys2Proof.Proofs

open Sys2Proof Sys2Proof.Machine

/-! ## The taking of a request (R169, R173) -/

/-- Codes and commands agree (R190). -/
@[simp] theorem commandOfCode_codeOfCommand (cmd : Command) : commandOfCode (codeOfCommand cmd) = some cmd := by
  cases cmd <;> rfl

/-- NOP's code names no command (R171). -/
theorem codeOfCommand_ne_zero (cmd : Command) : codeOfCommand cmd ≠ 0 := by
  cases cmd <;> decide

/-- Every argument length of R191 fits a frame. -/
theorem argLength_le_maxArgs (cmd : Command) : argLength cmd ≤ 11 := by
  cases cmd <;> decide

/-- Taking a request needs RESETn released, a select period that is not ignored, and a slot that was not shown PENDING. -/
theorem takesRequest_iff (s : State) :
    s.takesRequest = true ↔ s.inReset = false ∧ s.link.select ≠ .ignored ∧ s.link.imagePending = false := by
  simp [State.takesRequest, and_assoc]

/-- A sound frame of a code other than NOP's is taken, and its event ends. -/
theorem releaseSelect_requestFrame {s : State} (code tag : Byte) {args : List Byte} (takes : s.takesRequest = true)
    (fits : args.length ≤ 11) (hcode : code ≠ 0) :
    s.releaseSelect (requestFrame code tag args) = (s.begin.deselect.takeRequest code tag args).finish := by
  obtain ⟨released, selected, shown⟩ := (takesRequest_iff s).mp takes
  have sound : judge (requestFrame code tag args) s.link.imagePending = .taken code tag args := by
    rw [shown, Laws.judge_requestFrame code tag args fits, if_neg hcode]
  simp [State.releaseSelect, released, selected, sound, Work.carryOut]

/-- A command with the argument length of R191 acts (R173, orders 1 to 3). -/
theorem decideRequest_of_length (w : Work) {cmd : Command} {args : List Byte} (h : args.length = argLength cmd) :
    w.decideRequest (codeOfCommand cmd) args = w.takeCommand args cmd := by
  simp [Work.decideRequest, h]

/-- A decision that leaves the event as it is changes the slot alone. -/
theorem takeRequest_of_unchanged {s : State} {code : Byte} (tag : Byte) {args : List Byte} {status : Status}
    {results : List Byte} (h : s.begin.deselect.decideRequest code args = (s.begin.deselect, status, results)) :
    (s.begin.deselect.takeRequest code tag args).finish = (s.withSlot tag status results).drivePins := by
  rw [Work.takeRequest, h, Work.finish_quiet rfl, Work.close_nil rfl]
  rfl

/-- The row of a command whose own action leaves the event as it is: the slot takes its answer, and nothing else
changes. -/
theorem releaseSelect_of_unchanged {s : State} {cmd : Command} (tag : Byte) {args : List Byte} {status : Status}
    {results : List Byte} (takes : s.takesRequest = true) (len : args.length = argLength cmd)
    (h : s.begin.deselect.takeCommand args cmd = (s.begin.deselect, status, results)) :
    s.releaseSelect (requestFrame (codeOfCommand cmd) tag args) = (s.withSlot tag status results).drivePins := by
  rw [releaseSelect_requestFrame _ _ takes (len ▸ argLength_le_maxArgs cmd) (codeOfCommand_ne_zero cmd)]
  exact takeRequest_of_unchanged tag (by rw [decideRequest_of_length _ len, h])

/-! ## Index arguments (R18) -/

theorem indexOf_of_le {n : Nat} (h : 64 ≤ n) : indexOf n = none :=
  dif_neg (Nat.not_lt.mpr h)

@[simp] theorem indexOf_val (e : EntryIndex) : indexOf e.val = some e :=
  dif_pos e.isLt

/-! ## READ_ENTRY's own action (R181) -/

section Action
variable (w : Work) {n : Byte}

/-- An index above 63 is refused. -/
theorem takeReadEntry_badArg (h : 64 ≤ n.toNat) : w.takeReadEntry [n] = (w, .badArg, []) := by
  simp [Work.takeReadEntry, argByte, indexOf_of_le h]

/-- An index of the table is answered with the entry as it is at the moment of the taking. -/
theorem takeReadEntry_ok {e : EntryIndex} (h : n.toNat = e.val) :
    w.takeReadEntry [n] = (w, .ok, readEntryResult e (w.s.entry e)) := by
  simp [Work.takeReadEntry, argByte, h]

end Action

theorem exec_readEntry (tag : Byte) (args : List Byte) (s : State) :
    exec (.readEntry tag args) s = .next (s.releaseSelect (requestFrame (codeOfCommand .readEntry) tag args)) := rfl

/-- The row READ_ENTRY fills the slot with its answer, and changes nothing else. -/
theorem exec_readEntry_of_action {s : State} (tag : Byte) {n : Byte} {status : Status} {results : List Byte}
    (takes : s.takesRequest = true)
    (action : s.begin.deselect.takeReadEntry [n] = (s.begin.deselect, status, results)) :
    exec (.readEntry tag [n]) s = .next (s.withSlot tag status results).drivePins := by
  rw [exec_readEntry, releaseSelect_of_unchanged (cmd := .readEntry) tag takes rfl action]

/-! ## The parts of the result (R194) -/

/-- A byte is the low byte of the number it holds. -/
theorem ofNat_of_toNat_eq {n : Byte} {k : Nat} (h : n.toNat = k) : BitVec.ofNat 8 k = n := by
  rw [← h, BitVec.ofNat_toNat, BitVec.setWidth_eq]

/-- The byte of the port a poison cause names (R190). -/
theorem ofNat_portNumber_some (p : Port) : BitVec.ofNat 8 (portNumber (some p)) = if p = .a then 1 else 2 := by
  cases p <;> rfl

/-- The part a pending replacement has in the result: a content its image, a delete or no replacement nothing. -/
@[simp] def replacementPart : Option Replacement → List Byte
  | none => []
  | some .delete => []
  | some (.content d) => d.image

section Parts
variable (c : Content) (v : BitVec 16) (u : Nat) (k : PoisonCause)

@[simp] theorem parts_active : Entry.parts (.active c v u) = c.image ++ leBytes 2 v.toNat := by
  simp [Entry.parts, Entry.content?, Entry.version?, Entry.replacement?, Entry.cause?]

@[simp] theorem parts_draining (r : Replacement) :
    Entry.parts (.draining c v u r) = c.image ++ leBytes 2 v.toNat ++ replacementPart (some r) := by
  cases r <;> simp [Entry.parts, Entry.content?, Entry.version?, Entry.replacement?, Entry.cause?]

@[simp] theorem parts_poisoned (r : Option Replacement) :
    Entry.parts (.poisoned c v r k) =
      c.image ++ leBytes 2 v.toNat ++ replacementPart r
        ++ [if k.port = .a then 1 else 2, BitVec.ofNat 8 k.attempts] := by
  rcases r with _ | _ | _ <;>
    simp [Entry.parts, Entry.content?, Entry.version?, Entry.replacement?, Entry.cause?, ofNat_portNumber_some]

end Parts

/-! ## The presence byte (R194): content 1, replacement 2, delete 4, cause 8 -/

/-- What a pending replacement adds to the presence byte. -/
@[simp] def replacementBits : Option Replacement → Nat
  | none => 0
  | some .delete => 6
  | some (.content _) => 2

section Presence
variable (c : Content) (v : BitVec 16) (u : Nat) (k : PoisonCause)

@[simp] theorem presence_active : Entry.presence (.active c v u) = 1 := rfl

@[simp] theorem presence_draining (r : Replacement) :
    Entry.presence (.draining c v u r) = 1 + replacementBits (some r) := by
  cases r <;> rfl

@[simp] theorem presence_poisoned (r : Option Replacement) :
    Entry.presence (.poisoned c v r k) = 9 + replacementBits r := by
  rcases r with _ | _ | _ <;> rfl

end Presence

/-! ## The result for each state of an entry -/

section Result
variable (e : EntryIndex) (c : Content) (v : BitVec 16) (u : Nat) (k : PoisonCause)

theorem readEntryResult_empty : readEntryResult e .empty = [BitVec.ofNat 8 e.val, 0, 0, 0] := rfl

theorem readEntryResult_active :
    readEntryResult e (.active c v u) =
      [BitVec.ofNat 8 e.val, 1, BitVec.ofNat 8 u, 1] ++ c.image ++ leBytes 2 v.toNat := by
  simp [readEntryResult, Entry.stateNumber, Entry.users]

theorem readEntryResult_draining (r : Replacement) :
    readEntryResult e (.draining c v u r) =
      [BitVec.ofNat 8 e.val, 2, BitVec.ofNat 8 u, BitVec.ofNat 8 (1 + replacementBits (some r))]
        ++ c.image ++ leBytes 2 v.toNat ++ replacementPart (some r) := by
  simp [readEntryResult, Entry.stateNumber, Entry.users]

theorem readEntryResult_poisoned (r : Option Replacement) :
    readEntryResult e (.poisoned c v r k) =
      [BitVec.ofNat 8 e.val, 3, 0, BitVec.ofNat 8 (9 + replacementBits r)]
        ++ c.image ++ leBytes 2 v.toNat ++ replacementPart r
        ++ [if k.port = .a then 1 else 2, BitVec.ofNat 8 k.attempts] := by
  simp [readEntryResult, Entry.stateNumber, Entry.users]

end Result

/-- Settles O49. READ_ENTRY's own action leaves the event as it is, so only the slot changes; the result's layout is
read off the entry's state and its pending replacement. -/
theorem readEntryReturnsEntry : Obligations.ReadEntryReturnsEntry := by
  unfold Obligations.ReadEntryReturnsEntry
  intro s tag n takes
  refine ⟨fun above => exec_readEntry_of_action tag takes (takeReadEntry_badArg _ above), fun e index => ?_⟩
  have row := exec_readEntry_of_action tag takes (takeReadEntry_ok _ index)
  rw [show s.begin.deselect.s.entry e = s.entry e from rfl] at row
  rw [row, ← ofNat_of_toNat_eq index]
  congr 3
  cases s.entry e with
  | empty => exact readEntryResult_empty e
  | active c v u => exact readEntryResult_active e c v u
  | draining c v u r =>
    rw [readEntryResult_draining]
    cases r with
    | content d => simp
    | delete => simp
  | poisoned c v r k =>
    rw [readEntryResult_poisoned]
    match r with
    | none => simp
    | some (.content d) => simp
    | some .delete => simp

end Sys2Proof.Proofs
end

section
/-! PROOFS. Accesses answered in the event of their arrival: what a reply makes of a port that has just taken an arrival,
and the statements O8 (no enabled lane, R27) and O10 (a POISONED entry, R29). -/

namespace Sys2Proof.Proofs

open Sys2Proof Sys2Proof.Machine

/-! ## A reply at the arrival (R120 to R122) -/

section ArrivalReply
variable (s : State) (p : Port) (a : Access) (ans : Answer)

/-- Taking an arrival and then putting the port in a state write the same port. -/
theorem arrive_setPortState_s (x : PortState) : ((s.begin.arrive p).setPortState p x).s = s.withArrival p x := by
  cases p <;> rfl

/-- An access just arrived has no released flag, so that its reply leaves the port ANSWERED (R128). -/
@[simp] theorem arrive_reply_s : ((s.begin.arrive p).reply p (arrival a) ans).s = s.withArrival p (.answered a ans) :=
  arrive_setPortState_s s p (.answered a ans)

/-- An access answered in the event of its arrival, with nothing reported, changes its port alone. -/
theorem arrive_reply_finish :
    ((s.begin.arrive p).reply p (arrival a) ans).finish = (s.withArrival p (.answered a ans)).drivePins := by
  rw [Work.finish_quiet rfl, Work.close_nil rfl, arrive_reply_s]

end ArrivalReply

/-! ## A port B access with no enabled lane (R27) -/

/-- The row of a port B arrival with no enabled lane: the access is answered before any lookup. -/
theorem exec_portBArrival_noLane (word : WordAddr) (isWrite : Bool) (data : Word) {s : State}
    (takes : s.takesArrival .b = true) :
    exec (.portBArrival word isWrite 0 data) s =
      .next
        ((s.begin.arrive .b).reply .b (arrival (captureB word isWrite 0 data s.ports.b.holdLimit))
          (okAnswer (captureB word isWrite 0 data s.ports.b.holdLimit) 0)).finish := by
  simp [exec, execPortBArrival, takes]

/-- A plain answer to port B carries data on a read only (R122). -/
theorem okAnswer_captureB (word : WordAddr) (isWrite : Bool) (enabled : BitVec 4) (data : Word) (limit : Nat)
    (d : Word) :
    okAnswer (captureB word isWrite enabled data limit) d =
      { error := false, data := if isWrite = true then none else some d } := by
  cases isWrite <;> rfl

/-- Settles O8. The row is a plain reply at the arrival, which changes the port alone. -/
theorem noEnabledLaneAnsweredAtOnce : Obligations.NoEnabledLaneAnsweredAtOnce := by
  unfold Obligations.NoEnabledLaneAnsweredAtOnce
  intro word isWrite data s takes
  rw [exec_portBArrival_noLane word isWrite data takes, arrive_reply_finish, okAnswer_captureB]

/-! ## An access on a POISONED entry (R29) -/

/-- Step 3 refuses an access whose word a POISONED entry holds, whatever its direction and bytes. -/
theorem classify_poisoned {w : Work} {p : Port} {h : Held} {e : EntryIndex} {c : Content} {v : BitVec 16}
    {r : Option Replacement} {k : PoisonCause} (found : w.s.lookup h.access.word = some e)
    (poisoned : w.s.entry e = .poisoned c v r k) : w.classify p h = w.refusePoisoned p h e := by
  simp [Work.classify, found, poisoned]

/-- The refusal at the arrival: POISON_REFUSED is recorded, the port is ANSWERED with error, nothing else changes. -/
theorem arrive_refusePoisoned_finish (s : State) (p : Port) (a : Access) (e : EntryIndex) :
    ((s.begin.arrive p).refusePoisoned p (arrival a) e).finish =
      ((s.withArrival p (refusedWith a)).recorded .poisonRefused (some p) (some e) (some a.address) none).drivePins := by
  have state : ((s.begin.arrive p).refusePoisoned p (arrival a) e).s = s.withArrival p (refusedWith a) :=
    arrive_reply_s s p a (errorAnswer a)
  rw [Work.finish_quiet rfl, Work.close_one rfl, state]
  rfl

/-- Settles O10. The arrival is classified, the lookup finds the POISONED entry, and step 3 refuses the access. -/
theorem poisonedEntryRefusesAccess : Obligations.PoisonedEntryRefusesAccess := by
  unfold Obligations.PoisonedEntryRefusesAccess
  intro i s p a e c v r k arrives found poisoned
  obtain ⟨row, -⟩ := exec_arrival arrives
  have refused : (s.begin.arrive p).classify p (arrival a) = (s.begin.arrive p).refusePoisoned p (arrival a) e :=
    classify_poisoned found poisoned
  rw [row, refused, arrive_refusePoisoned_finish]

end Sys2Proof.Proofs
end

section
/-! PROOFS. Stray accesses (R56 to R58, R75 to R77): the one outcome of stray reads and stray writes, the way a stray access
takes to it, what it leaves at the arrival, and the statement O21. -/

namespace Sys2Proof.Proofs

open Sys2Proof Sys2Proof.Machine

/-! ## The outcome of a stray access -/

/-- What a stray access reports: a write as the staging unit's STRAY_WRITE, any other as the snapshot unit's STRAY_READ. -/
def strayReport (p : Port) (a : Access) (e : EntryIndex) : Report :=
  { source := if a.direction = .write then .stagingUnit else .snapshotUnit
    kind := if a.direction = .write then .strayWrite else .strayRead
    port := some p
    entry := some e
    address := some a.address
    detail := none }

/-- The outcome of a stray access of either direction: it is recorded, and the stray policy decides. -/
def strayOutcome (w : Work) (p : Port) (h : Held) (e : EntryIndex) (c : Content) : Work :=
  match c.stray with
  | .pass => (w.report (strayReport p h.access e)).plain p h (some e)
  | .fault => (w.report (strayReport p h.access e)).reply p h (errorAnswer h.access)

section Outcome
variable {w : Work} {p : Port} {h : Held} {e : EntryIndex} {c : Content}

theorem strayOutcome_pass (policy : c.stray = .pass) :
    strayOutcome w p h e c = (w.report (strayReport p h.access e)).plain p h (some e) := by
  simp [strayOutcome, policy]

theorem strayOutcome_fault (policy : c.stray = .fault) :
    strayOutcome w p h e c = (w.report (strayReport p h.access e)).reply p h (errorAnswer h.access) := by
  simp [strayOutcome, policy]

/-- The snapshot unit's stray read (R56 to R58). -/
theorem strayRead_eq (read : h.access.direction ≠ .write) : w.strayRead p h e c = strayOutcome w p h e c := by
  cases policy : c.stray <;> simp [Work.strayRead, strayOutcome, strayReport, policy, read]

/-- The staging unit's stray write (R75 to R77). -/
theorem strayWrite_eq (write : h.access.direction = .write) : w.strayWrite p h e c = strayOutcome w p h e c := by
  cases policy : c.stray <;> simp [Work.strayWrite, strayOutcome, strayReport, policy, write]

/-! ## Which accesses are stray -/

/-- On an ordered content an access opens by the lead byte alone (R43, R70). -/
theorem opens_eq_false_iff {a : Access} : a.opens c = false ↔ c.order ≠ .any ∧ a.touchesLead c = false := by
  simp [Access.opens]

/-- A read that does not open, of a port without a snapshot on the entry, is stray (R43, R56). -/
theorem snapshotRead_stray (d : Bool) (closed : h.access.opens c = false) (noSnapshot : w.s.snapshotOn p e = none) :
    w.snapshotRead p h e c d = w.strayRead p h e c := by
  obtain ⟨ordered, noLead⟩ := opens_eq_false_iff.mp closed
  simp [Work.snapshotRead, noSnapshot, ordered, noLead]

/-- A write that does not open, of a port without an OPEN record on the entry, is stray (R70, R75). -/
theorem stagingWrite_stray (d : Bool) (closed : h.access.opens c = false) (noRecord : w.s.recordOn p e = none) :
    w.stagingWrite p h e c d = w.strayWrite p h e c := by
  obtain ⟨ordered, noLead⟩ := opens_eq_false_iff.mp closed
  simp [Work.stagingWrite, noRecord, ordered, noLead]

/-- The classification of an access that touches object bytes of a live entry but does not open there, and meets no snapshot
of its port: a write handed to the staging unit that meets no OPEN record, and a read handed to the snapshot unit, are
stray. -/
theorem classify_stray {d : Bool} (found : w.s.lookup h.access.word = some e) (serves : w.s.serves e c d = true)
    (bytes : h.access.objectBytes c ≠ []) (closed : h.access.opens c = false) (noSnapshot : w.s.snapshotOn p e = none)
    (handed :
      if h.access.direction = .write then c.allows p = true ∧ c.writePolicy = .staged ∧ w.s.recordOn p e = none
      else w.s.ownsCommit p e = false ∧ c.readPolicy = .snapshot) :
    w.classify p h = strayOutcome w p h e c := by
  rw [Work.classify_serves found serves]
  by_cases write : h.access.direction = .write
  · obtain ⟨allowed, staged, noRecord⟩ := (if_pos write).mp handed
    rw [Work.classifyOn_write serves write bytes noSnapshot allowed, staged]
    exact (stagingWrite_stray d closed noRecord).trans (strayWrite_eq write)
  · obtain ⟨noCommit, snapshot⟩ := (if_neg write).mp handed
    rw [Work.classifyOn_read write bytes noCommit, snapshot]
    exact (snapshotRead_stray d closed noSnapshot).trans (strayRead_eq write)

end Outcome

/-! ## The outcome at the arrival -/

section StrayArrival
variable (s : State) (p : Port) (a : Access)

/-- An access that goes plain in the event of its arrival is held with cause MEMORY and asks for its word (R34). -/
theorem arrive_plain_s (entry : Option EntryIndex) :
    ((s.begin.arrive p).plain p (arrival a) entry).s =
      (s.withArrival p (heldAs a .memory entry)).withWaiting p (some (plainTransfer p a entry)) := by
  cases p <;> rfl

/-- An event whose one report is that of a stray access records it, and ends: the queue does not look at the source
(R157). -/
theorem finish_of_strayReport {w : Work} {t : State} {e : EntryIndex} (quiet : w.again = ⟨false, false⟩)
    (noted : w.reports = [strayReport p a e]) (state : w.s = t) :
    w.finish =
      (t.recorded (if a.direction = .write then .strayWrite else .strayRead) (some p) (some e) (some a.address)
        none).drivePins := by
  rw [Work.finish_quiet quiet, Work.close_one noted, state]
  rfl

variable {e : EntryIndex} {c : Content}

/-- Under PASS the access waits for its plain transfer, and the event is recorded (R57, R76). -/
theorem arrive_strayOutcome_pass (policy : c.stray = .pass) :
    (strayOutcome (s.begin.arrive p) p (arrival a) e c).finish =
      (((s.withArrival p (heldAs a .memory (some e))).withWaiting p (some (plainTransfer p a (some e)))).recorded
        (if a.direction = .write then .strayWrite else .strayRead) (some p) (some e) (some a.address) none).drivePins := by
  rw [strayOutcome_pass policy]
  exact finish_of_strayReport p a rfl rfl (arrive_plain_s s p a (some e))

/-- Under FAULT the port is ANSWERED with error, and the event is recorded (R58, R77). -/
theorem arrive_strayOutcome_fault (policy : c.stray = .fault) :
    (strayOutcome (s.begin.arrive p) p (arrival a) e c).finish =
      ((s.withArrival p (refusedWith a)).recorded (if a.direction = .write then .strayWrite else .strayRead) (some p)
        (some e) (some a.address) none).drivePins := by
  rw [strayOutcome_fault policy]
  exact finish_of_strayReport p a rfl rfl (arrive_reply_s s p a (errorAnswer a))

end StrayArrival

/-- Settles O21. The arrival is classified as stray, a read by the snapshot unit and a write by the staging unit; the stray
policy then decides what the one outcome leaves. -/
theorem strayAccessFollowsStrayPolicy : Obligations.StrayAccessFollowsStrayPolicy := by
  unfold Obligations.StrayAccessFollowsStrayPolicy
  intro i s p a e c d arrives found serves bytes closed noSnapshot handed
  obtain ⟨row, -⟩ := exec_arrival arrives
  have stray : (s.begin.arrive p).classify p (arrival a) = strayOutcome (s.begin.arrive p) p (arrival a) e c :=
    classify_stray found serves bytes closed noSnapshot handed
  rw [row, stray]
  exact ⟨fun pass => congrArg _ (arrive_strayOutcome_pass s p a pass),
    fun fault => congrArg _ (arrive_strayOutcome_fault s p a fault)⟩

end Sys2Proof.Proofs
end

section
/-! PROOFS. The event queue and ALERTn: the level of ALERTn and the statement O40 (R163, R165), the records PEEK_EVENTS
copies and those ACK_EVENTS removes, and the statement O51 (R160, R161). -/

namespace Sys2Proof.Proofs

open Sys2Proof Sys2Proof.Machine

/-! ## ALERTn (R163) -/

/-- The table counts a POISONED entry when it has one (R17). -/
theorem poisonedCount_pos_iff (s : State) : 1 ≤ s.poisonedCount ↔ ∃ e, (s.entry e).isPoisoned = true := by
  unfold State.poisonedCount
  rw [Nat.one_le_iff_ne_zero, Nat.ne_zero_iff_zero_lt, List.countP_pos_iff]
  simp only [List.mem_finRange, true_and]

/-- The condition under which ALERTn is driven low, with the entry that R17's count stands for. -/
theorem alerting_iff (s : State) :
    s.alerting = true ↔
      s.inReset = false
        ∧ (s.events.threshold ≤ s.events.records.length
          ∨ (s.events.poisonAlert = true ∧ ∃ e, (s.entry e).isPoisoned = true)) := by
  rw [← poisonedCount_pos_iff]
  simp only [State.alerting, Bool.and_eq_true, Bool.or_eq_true, Bool.not_eq_true', decide_eq_true_eq]

/-- Where the pins stand at their levels, ALERTn is low exactly while the block alerts. -/
theorem alertn_low_iff {s : State} (driven : s.pinsDriven) : s.pins.alertn = false ↔ s.alerting = true := by
  have level : s.pins.alertn = !s.alerting := congrArg Pins.alertn driven
  rw [level, Bool.not_eq_false']

/-- Settles O40. The pin stands at the level of R163's condition, whose count of POISONED entries is one or more exactly
where an entry is POISONED. -/
theorem alertFollowsQueueAndPoison : Obligations.AlertFollowsQueueAndPoison := by
  unfold Obligations.AlertFollowsQueueAndPoison
  intro s driven
  exact (alertn_low_iff driven).trans (alerting_iff s)

/-! ## The bytes of a record (R195) -/

/-- A presence bit, told from the field's absence. -/
theorem presenceBit_eq {α : Type} (x : Option α) (bit : Nat) [Decidable (x = none)] :
    (if x.isSome then bit else 0) = if x = none then 0 else bit := by
  cases x <;> simp

/-- The ten bytes of a record, one by one. -/
theorem eventRecord_image_eq (r : EventRecord) :
    r.image =
      [BitVec.ofNat 8 r.sequence.toNat, BitVec.ofNat 8 (r.sequence.toNat / 256), BitVec.ofNat 8 r.kind.number,
       BitVec.ofNat 8
        (portNumber r.port + (if r.entry = none then 0 else 4) + (if r.address = none then 0 else 8)
          + (if r.detail = none then 0 else 16) + (if r.dropped = none then 0 else 32)),
       BitVec.ofNat 8 ((r.entry.map Fin.val).getD 0),
       BitVec.ofNat 8 ((r.address.map BitVec.toNat).getD 0),
       BitVec.ofNat 8 ((r.address.map BitVec.toNat).getD 0 / 256),
       BitVec.ofNat 8 ((r.address.map BitVec.toNat).getD 0 / 65536),
       BitVec.ofNat 8 (r.detail.getD 0), BitVec.ofNat 8 (r.dropped.getD 0)] := by
  simp only [EventRecord.image, EventRecord.byteThree, presenceBit_eq, leBytes, Nat.div_div_eq_div_mul, List.cons_append,
    List.nil_append]

/-! ## The records ACK_EVENTS removes (R161) -/

/-- The number two argument bytes hold names one sequence number. -/
theorem sequence_eq_argPair_iff (q : BitVec 16) (lo hi : Byte) :
    q = BitVec.ofNat 16 (argPair [lo, hi] 0) ↔ q.toNat = lo.toNat + 256 * hi.toNat := by
  have number : argPair [lo, hi] 0 = lo.toNat + 256 * hi.toNat := by simp [argPair, leValue]
  rw [number]
  bv_omega

/-- What stands behind the first record with the number is left. -/
theorem afterSequence_of_first {q : BitVec 16} {before : List EventRecord} {r : EventRecord} (after : List EventRecord)
    (here : r.sequence = q) (first : ∀ x ∈ before, x.sequence ≠ q) : afterSequence q (before ++ r :: after) = some after := by
  induction before with
  | nil => simp [afterSequence, here]
  | cons x xs ih =>
    obtain ⟨other, others⟩ := List.forall_mem_cons.mp first
    rw [List.cons_append, afterSequence, if_neg other, ih others]

/-- Where no record has the number, none is found. -/
theorem afterSequence_of_absent {q : BitVec 16} {records : List EventRecord} (absent : ∀ x ∈ records, x.sequence ≠ q) :
    afterSequence q records = none := by
  induction records with
  | nil => rfl
  | cons x xs ih =>
    obtain ⟨other, others⟩ := List.forall_mem_cons.mp absent
    rw [afterSequence, if_neg other, ih others]

/-! ## The two commands' own actions (R182) -/

section QueueAction
variable (w : Work) {lo hi : Byte}

/-- PEEK_EVENTS leaves the event as it is, and answers with the oldest records' images. -/
theorem takePeekEvents_eq (n : Byte) :
    w.takePeekEvents [n] = (w, .ok, ((w.s.events.records.take (min n.toNat 8)).map EventRecord.image).flatten) := rfl

/-- An ACK_EVENTS that names a record removes all through the first record of that number. -/
theorem takeAckEvents_ok {before : List EventRecord} {r : EventRecord} {after : List EventRecord}
    (split : w.s.events.records = before ++ r :: after) (here : r.sequence.toNat = lo.toNat + 256 * hi.toNat)
    (first : ∀ x ∈ before, x.sequence.toNat ≠ lo.toNat + 256 * hi.toNat) :
    w.takeAckEvents [lo, hi] = (w.setEvents { w.s.events with records := after }, .ok, []) := by
  have left := afterSequence_of_first after ((sequence_eq_argPair_iff r.sequence lo hi).mpr here)
    fun x hx => mt (sequence_eq_argPair_iff x.sequence lo hi).mp (first x hx)
  rw [Work.takeAckEvents, split, left]

/-- An ACK_EVENTS that names no record is refused. -/
theorem takeAckEvents_badArg (absent : ∀ x ∈ w.s.events.records, x.sequence.toNat ≠ lo.toNat + 256 * hi.toNat) :
    w.takeAckEvents [lo, hi] = (w, .badArg, []) := by
  have none_left := afterSequence_of_absent
    fun x hx => mt (sequence_eq_argPair_iff x.sequence lo hi).mp (absent x hx)
  rw [Work.takeAckEvents, none_left]

end QueueAction

/-! ## The rows PEEK_EVENTS and ACK_EVENTS -/

theorem exec_peekEvents (tag : Byte) (args : List Byte) (s : State) :
    exec (.peekEvents tag args) s = .next (s.releaseSelect (requestFrame (codeOfCommand .peekEvents) tag args)) := rfl

theorem exec_ackEvents (tag : Byte) (args : List Byte) (s : State) :
    exec (.ackEvents tag args) s = .next (s.releaseSelect (requestFrame (codeOfCommand .ackEvents) tag args)) := rfl

/-- The row of a command whose own action replaces the queue and does nothing else: the slot takes its answer, and the
queue is the new one. -/
theorem releaseSelect_of_setEvents {s : State} {cmd : Command} (tag : Byte) {args : List Byte} {q : EventQueue}
    {status : Status} {results : List Byte} (takes : s.takesRequest = true) (len : args.length = argLength cmd)
    (h : s.begin.deselect.takeCommand args cmd = (s.begin.deselect.setEvents q, status, results)) :
    s.releaseSelect (requestFrame (codeOfCommand cmd) tag args) =
      State.drivePins { s.withSlot tag status results with events := q } := by
  rw [releaseSelect_requestFrame _ _ takes (len ▸ argLength_le_maxArgs cmd) (codeOfCommand_ne_zero cmd),
    Work.takeRequest, decideRequest_of_length _ len, h, Work.finish_quiet rfl, Work.close_nil rfl]
  rfl

/-- Settles O51. PEEK_EVENTS' own action leaves the event as it is, so only the slot changes; ACK_EVENTS' own action
searches the queue from its head, and replaces it or leaves it. -/
theorem peekCopiesAndAckRemoves : Obligations.PeekCopiesAndAckRemoves := by
  unfold Obligations.PeekCopiesAndAckRemoves
  refine ⟨rfl, fun s tag takes => ?_⟩
  intro image
  have image_eq : image = EventRecord.image := by
    funext r
    rw [eventRecord_image_eq]
    rcases r with ⟨_, _, _ | _ | _, _⟩ <;> rfl
  refine ⟨fun n => ?_, fun lo hi => ⟨fun before r after split here first => ?_, fun absent => ?_⟩⟩
  · rw [image_eq, exec_peekEvents,
      releaseSelect_of_unchanged (cmd := .peekEvents) tag takes rfl (takePeekEvents_eq _ n)]
    rfl
  · rw [exec_ackEvents,
      releaseSelect_of_setEvents (cmd := .ackEvents) tag takes rfl (takeAckEvents_ok _ split here first)]
    rfl
  · rw [exec_ackEvents,
      releaseSelect_of_unchanged (cmd := .ackEvents) tag takes rfl (takeAckEvents_badArg _ absent)]

end Sys2Proof.Proofs
end

section
/-! PROOFS. The management link: the row of a frame and the judging of a frame shown PENDING, discarded frames and empty
transactions with the statement O43 (R167, R170, R172), READ_STATUS and the statement O48 (R177, R196). -/

namespace Sys2Proof.Proofs

open Sys2Proof Sys2Proof.Machine

/-! ## The release of MSELn (R169, R170, R186) -/

/-- Judging a frame needs RESETn released and a select period that is not ignored. -/
theorem judgesFrame_iff (s : State) : s.judgesFrame = true ↔ s.inReset = false ∧ s.link.select ≠ .ignored := by
  simp [State.judgesFrame]

/-- Where the link judges frames, the event of the release carries the verdict out. -/
theorem releaseSelect_of_judges {s : State} (judges : s.judgesFrame = true) (bytes : List Byte) :
    s.releaseSelect bytes = (s.begin.deselect.carryOut (judge bytes s.link.imagePending)).finish := by
  obtain ⟨released, selected⟩ := (judgesFrame_iff s).mp judges
  simp [State.releaseSelect, released, selected]

/-- A release that carries nothing out changes MSELn alone. -/
theorem deselect_close (s : State) : s.begin.deselect.close = s.deselected.drivePins :=
  Work.close_nil rfl

/-- A discarded frame leaves its LINK_ERROR record, and MSELn released. -/
theorem releaseSelect_of_discarded {s : State} {bytes : List Byte} {cause : LinkCause} (judges : s.judgesFrame = true)
    (verdict : judge bytes s.link.imagePending = .discarded cause) :
    s.releaseSelect bytes =
      (s.deselected.recorded .linkError none none none (some cause.number)).drivePins := by
  rw [releaseSelect_of_judges judges, verdict, Work.carryOut, Work.finish_quiet rfl, Work.close_one rfl]
  rfl

/-! ## Transactions given as raw bits (R167) -/

/-- A transaction with an edge of MCK is judged by its whole bytes. -/
theorem exec_discardedFrame {mdi : List Bool} (edge : mdi ≠ []) (s : State) :
    exec (.discardedFrame mdi) s = .next (s.releaseSelect (packBits mdi)) :=
  if_neg (by simpa using edge)

/-- A transaction without an edge of MCK is empty. -/
theorem exec_discardedFrame_nil (s : State) : exec (.discardedFrame []) s = .next s.deselected.drivePins :=
  congrArg Host.Outcome.next (deselect_close s)

/-! ## Link rows -/

/-- Every link row is the release of MSELn after its frame (R189, R190). -/
theorem exec_of_frame {i : Instr} {code tag : Byte} {args : List Byte} (frame : frameOf i = some (code, tag, args))
    (s : State) : exec i s = .next (s.releaseSelect (requestFrame code tag args)) := by
  cases i <;> cases frame <;> rfl

/-- The frame of every well-formed link row passes the checks. -/
theorem frameSound : (i : Instr) → Laws.FrameSound.Statement i
  | .deviceReset => Laws.FrameSound.deviceReset
  | .deviceResetRelease => Laws.FrameSound.deviceResetRelease
  | .portReset p => Laws.FrameSound.portReset p
  | .portResetRelease p => Laws.FrameSound.portResetRelease p
  | .portAArrival c x a d => Laws.FrameSound.portAArrival c x a d
  | .portBArrival w r e d => Laws.FrameSound.portBArrival w r e d
  | .strobeRelease x => Laws.FrameSound.strobeRelease x
  | .tick => Laws.FrameSound.tick
  | .snapshotLimitExpiry p e => Laws.FrameSound.snapshotLimitExpiry p e
  | .stagingLimitExpiry p e => Laws.FrameSound.stagingLimitExpiry p e
  | .holdLimitExpiry p => Laws.FrameSound.holdLimitExpiry p
  | .memoryAnswerLimitExpiry => Laws.FrameSound.memoryAnswerLimitExpiry
  | .grant => Laws.FrameSound.grant
  | .memoryReadWord d x => Laws.FrameSound.memoryReadWord d x
  | .memoryWriteAnswer x => Laws.FrameSound.memoryWriteAnswer x
  | .mselnAssert => Laws.FrameSound.mselnAssert
  | .nop tag args => Laws.FrameSound.nop tag args
  | .readStatus tag args => Laws.FrameSound.readStatus tag args
  | .setTimebase tag args => Laws.FrameSound.setTimebase tag args
  | .setHold tag args => Laws.FrameSound.setHold tag args
  | .setRetry tag args => Laws.FrameSound.setRetry tag args
  | .setAlert tag args => Laws.FrameSound.setAlert tag args
  | .writeEntry tag args => Laws.FrameSound.writeEntry tag args
  | .deleteEntry tag args => Laws.FrameSound.deleteEntry tag args
  | .readEntry tag args => Laws.FrameSound.readEntry tag args
  | .clearPoison tag args => Laws.FrameSound.clearPoison tag args
  | .peekEvents tag args => Laws.FrameSound.peekEvents tag args
  | .ackEvents tag args => Laws.FrameSound.ackEvents tag args
  | .flush tag args => Laws.FrameSound.flush tag args
  | .unknownCommand code tag args => Laws.FrameSound.unknownCommand code tag args
  | .requestCompletion => Laws.FrameSound.requestCompletion
  | .discardedFrame mdi => Laws.FrameSound.discardedFrame mdi

/-- The check for PENDING comes last: the bytes of a request taken behind any other image are discarded behind one that was
PENDING (R172). -/
theorem judge_pending_of_taken {bytes : List Byte} {code tag : Byte} {args : List Byte}
    (taken : judge bytes false = .taken code tag args) : judge bytes true = .discarded .busyDiscard := by
  unfold judge at taken ⊢
  split at taken
  · split_ifs at taken with long cut sum nop
    rw [if_neg long, if_neg cut, if_neg sum, if_neg nop, if_pos rfl]
  · contradiction

/-- Settles O43. A discarded frame is the release of MSELn with a LINK_ERROR; an empty transaction is the release alone;
and the sound frame of a request fails only the check for PENDING. -/
theorem discardedFrameOnlyRecordsLinkError : Obligations.DiscardedFrameOnlyRecordsLinkError := by
  unfold Obligations.DiscardedFrameOnlyRecordsLinkError
  intro s judges
  refine ⟨fun mdi cause edge verdict => ?_, exec_discardedFrame_nil s,
    fun i code tag args wf frame request pending => ?_⟩
  · rw [exec_discardedFrame edge, releaseSelect_of_discarded judges verdict]
  · have sound : judge (requestFrame code tag args) false = .taken code tag args := by
      rw [frameSound i code tag args frame wf, if_neg request]
    have verdict : judge (requestFrame code tag args) s.link.imagePending = .discarded .busyDiscard := by
      rw [pending, judge_pending_of_taken sound]
    rw [exec_of_frame frame, releaseSelect_of_discarded judges verdict]
    rfl

/-! ## READ_STATUS (R177, R196) -/

/-- The row READ_STATUS fills the slot with the status image, and changes nothing else. -/
theorem exec_readStatus {s : State} (tag : Byte) (takes : s.takesRequest = true) :
    exec (.readStatus tag []) s = .next (s.withSlot tag .ok s.statusImage).drivePins :=
  congrArg _ (releaseSelect_of_unchanged (cmd := .readStatus) tag takes rfl rfl)

/-- The status image at reset: every count 0, no access HELD, and the settings' reset values. -/
theorem statusImage_reset : State.reset.statusImage = [0, 0, 0, 0, 0, 0, 0, 0, 50, 208, 7, 208, 7, 3, 16, 1] := by
  decide

/-- Settles O48. READ_STATUS' own action leaves the event as it is, so only the slot changes; its results are the status
image, byte by byte. -/
theorem readStatusReturnsStatusImage : Obligations.ReadStatusReturnsStatusImage := by
  unfold Obligations.ReadStatusReturnsStatusImage
  refine ⟨rfl, fun s tag takes => exec_readStatus tag takes, fun tag => ?_⟩
  rw [exec_readStatus tag rfl, statusImage_reset]

end Sys2Proof.Proofs
end

section
/-! PROOFS. What classifications keep: a predicate of states that the few moves of a classification keep is kept by every
classification (R26 to R34), by every discard, and by the end of an event (R36). -/

namespace Sys2Proof.Machine

open Sys2Proof

/-! ## Answers and the states they leave (R121, R122) -/

/-- R121, R122 and R27 of one answer: a write's carries no data, any other one word, all ones with an error. -/
def AnswerFits (a : Access) (ans : Answer) : Prop :=
  (a.direction = .write → ans.data = none)
    ∧ (a.direction ≠ .write → ∃ w, ans.data = some w ∧ (ans.error = true → w = 0xffffffff))

theorem answerFits_ok (a : Access) (d : Word) : AnswerFits a (okAnswer a d) := by
  by_cases h : a.direction = .write <;> simp [AnswerFits, okAnswer, h]

theorem answerFits_error (a : Access) : AnswerFits a (errorAnswer a) := by
  by_cases h : a.direction = .write <;> simp [AnswerFits, errorAnswer, h]

/-- A state in which the end of a classification can leave a port: IDLE, HELD, or ANSWERED with an answer that fits. -/
def PortSettles : PortState → Prop
  | .idle => True
  | .held _ => True
  | .answered a ans => AnswerFits a ans
  | .inTransfer _ => False
  | .inReset => False

theorem portSettles_answered {a : Access} {ans : Answer} (released : Bool) (fits : AnswerFits a ans) :
    PortSettles (answeredState a released ans) := by
  cases released
  · exact fits
  · exact trivial

/-! ## The moves of a classification -/

/-- What the moves of a classification keep. `P` holds of the states between two events; `F p` of those in which port `p` is
free: its access is being classified, and it has neither a state of its own nor a request. -/
structure ClassifyKeeps (P : State → Prop) (F : Port → State → Prop) : Prop where
  choose : ∀ (s : State) (n : Nat), P s → P { s with choices := n }
  vacate : ∀ (w : Work) (p : Port) (h : Held), P w.s → (w.s.ports.get p).state = .held h →
    F p ((w.setPortState p .idle).setWaiting p none).s
  occupy : ∀ (w : Work) (p : Port) (x : PortState), F p w.s → PortSettles x → P (w.setPortState p x).s
  plain : ∀ (w : Work) (p : Port) (h : Held) (entry : Option EntryIndex), F p w.s → P (w.plain p h entry).s
  dropSnapshot : ∀ (w : Work) (p : Port) (e : EntryIndex), P w.s → P (w.dropSnapshot p e).s
  dropSnapshotFree : ∀ (w : Work) (p : Port) (e : EntryIndex), F p w.s → F p (w.dropSnapshot p e).s
  dropRecord : ∀ (w : Work) (p : Port) (e : EntryIndex), P w.s → P (w.dropRecord p e).s
  openSnapshot : ∀ (w : Work) (p : Port) (h : Held) (e : EntryIndex) (c : Content) (v : BitVec 16) (u : Nat),
    F p w.s → w.s.entry e = .active c v u → w.s.snapshotOn p e = none →
      (w.s.snaps.get p).length < Config.slotsPerPort → P (w.openSnapshot p h e c).s
  reopenSnapshot : ∀ (w : Work) (p : Port) (h : Held) (e : EntryIndex) (c : Content) (v : BitVec 16) (u : Nat)
    (x : Snapshot), F p w.s → w.s.entry e = .active c v u → w.s.snapshotOn p e = some x →
      P ((w.dropSnapshot p e).openSnapshot p h e c).s
  retouchSnaps : ∀ (w : Work) (p : Port) (f : Snapshot → Snapshot), P w.s → (∀ x, (f x).entry = x.entry) →
    P (w.setSnaps p ((w.s.snaps.get p).map f)).s
  openRecord : ∀ (w : Work) (p : Port) (e : EntryIndex) (c : Content) (v : BitVec 16) (u : Nat),
    F p w.s → w.s.entry e = .active c v u → w.s.recordOn p e = none →
      ¬(c.claim = .exclusive ∧ w.s.claims[e] = some p.other) → w.s.recordsInUse p < Config.recordsPerPort →
        F p (w.openRecord p e c).s
  reopenRecord : ∀ (w : Work) (p : Port) (e : EntryIndex) (c : Content) (v : BitVec 16) (u : Nat) (r : OpenRecord),
    F p w.s → w.s.entry e = .active c v u → w.s.recordOn p e = some r →
      F p (((w.setRecs p ((w.s.recs.get p).eraseP fun r => r.entry == e)).leave e).openRecord p e c).s
  retouchRecs : ∀ (w : Work) (p : Port) (f : OpenRecord → OpenRecord), P w.s → (∀ r, (f r).entry = r.entry) →
    P (w.setRecs p ((w.s.recs.get p).map f)).s
  enqueue : ∀ (w : Work) (p : Port) (e : EntryIndex) (bytes : List (Option Byte)), P w.s →
    (∃ r ∈ w.s.recs.get p, r.entry = e) →
      P ((w.setRecs p ((w.s.recs.get p).eraseP fun r => r.entry == e)).enqueue
        { port := p, entry := e, bytes := bytes }).s

/-! ## What an entry is after a leaving, and a withdrawal whole -/

/-- The discard of a snapshot leaves an ACTIVE entry ACTIVE, with its content and version (R15). -/
theorem dropSnapshot_active {w : Work} {e : EntryIndex} {c : Content} {v : BitVec 16} {u : Nat} (p : Port)
    (h : w.s.entry e = .active c v u) : ∃ u', (w.dropSnapshot p e).s.entry e = .active c v u' := by
  cases on : w.s.snapshotOn p e with
  | none => exact ⟨u, by rw [Work.dropSnapshot_none on, h]⟩
  | some x =>
    have same : ((((w.setSnaps p ((w.s.snaps.get p).eraseP fun x => x.entry == e)).withdrawFill p e).noticeSlot
        p).s.entry e) = .active c v u := by
      rw [Work.noticeSlot_s, ← h]
      unfold Work.withdrawFill
      repeat' split
      all_goals rfl
    exact ⟨u - 1, by rw [Work.dropSnapshot_some on, Work.leave_active same, Work.setEntry_entry]⟩

/-- An entry that serves without draining is ACTIVE. -/
theorem active_of_serves {s : State} {e : EntryIndex} {c : Content} (h : s.serves e c false = true) :
    ∃ v u, s.entry e = .active c v u := by
  unfold State.serves at h
  split at h <;> simp_all

/-- A withdrawal removes the port's request, and with a fill's the port's snapshot on the entry it would have filled
(R50, R103). -/
theorem withdraw_cases (w : Work) (p : Port) :
    w.withdraw p = w.setWaiting p none ∨ ∃ e, w.withdraw p = (w.setWaiting p none).dropSnapshot p e := by
  unfold Work.withdraw
  split
  · next h => left; rw [← h]; unfold Work.setWaiting; rw [PerPort.set_get]; rfl
  · split
    · exact .inr ⟨_, rfl⟩
    · exact .inl rfl

/-- An opened record is the port's on the entry (R72). -/
theorem openRecord_holds (w : Work) (p : Port) (e : EntryIndex) (c : Content) :
    ∃ r ∈ (w.openRecord p e c).s.recs.get p, r.entry = e := by
  refine ⟨freshRecord e c, ?_, rfl⟩
  have recs : (w.openRecord p e c).s.recs = w.s.recs.set p (w.s.recs.get p ++ [freshRecord e c]) := by
    unfold Work.openRecord Work.join
    dsimp only
    repeat' split
    all_goals rfl
  simp [recs]

/-! ## Every classification -/

section Classify
variable {P : State → Prop} {F : Port → State → Prop} (keeps : ClassifyKeeps P F)
include keeps

variable {w : Work} {p : Port} {h : Held} {e : EntryIndex} {c : Content}

theorem ClassifyKeeps.hold (free : F p w.s) (cause : HoldCause) (entry : Option EntryIndex) :
    P (w.hold p h cause entry).s :=
  keeps.occupy w p _ free trivial

theorem ClassifyKeeps.reply (free : F p w.s) {ans : Answer} (fits : AnswerFits h.access ans) :
    P (w.reply p h ans).s :=
  keeps.occupy w p _ free (portSettles_answered _ fits)

theorem ClassifyKeeps.snapshotRead {d : Bool} (free : F p w.s) (serves : w.s.serves e c d = true) :
    P (w.snapshotRead p h e c d).s := by
  have restart : ∀ x, w.s.snapshotOn p e = some x → P (w.snapshotRestart p h e c d).s := by
    intro x on
    cases d with
    | true => exact keeps.dropSnapshot _ p e (keeps.hold free .drain (some e))
    | false =>
      obtain ⟨v, u, active⟩ := active_of_serves serves
      exact keeps.reopenSnapshot w p h e c v u x free active on
  unfold Work.snapshotRead
  cases on : w.s.snapshotOn p e with
  | none =>
    simp only [Option.map_none]
    split
    · unfold Work.snapshotOpener
      split
      · exact keeps.hold free .drain (some e)
      · split
        · exact keeps.hold free .slot (some e)
        · next live full =>
          cases d with
          | true => exact absurd rfl live
          | false =>
            obtain ⟨v, u, active⟩ := active_of_serves serves
            exact keeps.openSnapshot w p h e c v u free active on (by omega)
    · unfold Work.strayRead
      split
      · exact keeps.plain (w.report _) p h (some e) free
      · exact keeps.reply (w := w.report _) free (answerFits_error _)
  | some x =>
    simp only [Option.map_some]
    split
    · contradiction
    · exact restart x on
    · next data coverage timer _ =>
      change P (if h.access.restarts c coverage = true then _ else w.snapshotServe p h e c data coverage).s
      split
      · exact restart x on
      · unfold Work.snapshotServe
        have answered := keeps.reply free (answerFits_ok h.access (snapshotWord data c h.access))
        dsimp only
        split
        · exact keeps.dropSnapshot _ p e answered
        · refine keeps.retouchSnaps (w.reply p h _) p _ answered fun x => ?_
          unfold withCoverage
          repeat' split
          all_goals rfl

theorem ClassifyKeeps.enterWrite (free : F p w.s) (bytes : List (Option Byte))
    (record : ∃ r ∈ w.s.recs.get p, r.entry = e) : P (w.enterWrite p h e c bytes).s := by
  unfold Work.enterWrite
  have answered := keeps.reply free (answerFits_ok h.access 0)
  dsimp only
  split
  · exact keeps.enqueue _ p e _ answered record
  · refine keeps.retouchRecs (w.reply p h _) p _ answered fun r => ?_
    unfold withBytes
    split <;> rfl

theorem ClassifyKeeps.stagingWrite {d : Bool} (free : F p w.s) (serves : d = false → ∃ v u, w.s.entry e = .active c v u) :
    P (w.stagingWrite p h e c d).s := by
  unfold Work.stagingWrite
  cases on : w.s.recordOn p e with
  | none =>
    simp only [Option.map_none]
    split
    · unfold Work.recordOpener
      split
      · exact keeps.hold free .drain (some e)
      · next live =>
        split
        · exact keeps.hold free .claim (some e)
        · next unclaimed =>
          split
          · exact keeps.hold free .record (some e)
          · next full =>
            obtain ⟨v, u, active⟩ := serves (by simpa using live)
            exact keeps.enterWrite (keeps.openRecord w p e c v u free active on unclaimed (by omega)) _
              (openRecord_holds w p e c)
    · unfold Work.strayWrite
      split
      · exact keeps.plain (w.report _) p h (some e) free
      · exact keeps.reply (w := w.report _) free (answerFits_error _)
  | some r =>
    simp only [Option.map_some]
    split
    · unfold Work.recordRestart
      dsimp only
      split
      · exact keeps.dropRecord _ p e (keeps.hold (w := w.report _) free .drain (some e))
      · next live =>
        obtain ⟨v, u, active⟩ := serves (by simpa using live)
        exact keeps.enterWrite (keeps.reopenRecord (w.report _) p e c v u r free active on) _
          (openRecord_holds _ p e c)
    · exact keeps.enterWrite free _ ⟨r, List.mem_of_find?_eq_some on, by simpa using List.find?_some on⟩

theorem ClassifyKeeps.classifyOn {d : Bool} (free : F p w.s) (serves : w.s.serves e c d = true) :
    P (w.classifyOn p h e c d).s := by
  have dropped := keeps.dropSnapshotFree w p e free
  have live : d = false → ∃ v u, (w.dropSnapshot p e).s.entry e = .active c v u := by
    rintro rfl
    obtain ⟨v, u, active⟩ := active_of_serves serves
    obtain ⟨u', active'⟩ := dropSnapshot_active p active
    exact ⟨v, u', active'⟩
  have again : P ((w.dropSnapshot p e).holdEnded p h e).s := keeps.hold dropped .drain (some e)
  unfold Work.classifyOn
  dsimp only
  split
  · split
    · split
      · exact again
      · exact keeps.plain _ p h (some e) dropped
    · split
      · exact keeps.reply (w := (w.dropSnapshot p e).report _) dropped (answerFits_error _)
      · split
        · exact again
        · split
          · exact keeps.stagingWrite dropped live
          · exact keeps.plain _ p h (some e) dropped
  · split
    · exact keeps.plain _ p h (some e) free
    · split
      · exact keeps.hold free .ownCommit (some e)
      · split
        · exact keeps.snapshotRead free serves
        · exact keeps.plain _ p h (some e) free

/-- Every classification keeps `P` (R26 to R34). -/
theorem ClassifyKeeps.classify (free : F p w.s) : P (w.classify p h).s := by
  unfold Work.classify
  split
  · exact keeps.plain _ p h none free
  · split
    · exact keeps.plain _ p h none free
    · exact keeps.reply (w := w.report _) free (answerFits_error _)
    · next found => exact keeps.classifyOn free (by simp [State.serves, found])
    · next found => exact keeps.classifyOn free (by simp [State.serves, found])

/-- A port whose HELD access gives its state and its request up is free (R103). -/
theorem ClassifyKeeps.withdraw (held : P w.s) (state : (w.s.ports.get p).state = .held h) :
    F p (((w.setPortState p .idle).withdraw p)).s := by
  have free := keeps.vacate w p h held state
  rcases withdraw_cases (w.setPortState p .idle) p with k | ⟨e, k⟩ <;> rw [k]
  · exact free
  · exact keeps.dropSnapshotFree _ p e free

/-- Every classification again keeps `P` (R36, R37). -/
theorem ClassifyKeeps.reclassify (held : P w.s) (p : Port) : P (w.reclassify p).s := by
  unfold Work.reclassify
  split
  · next state => exact keeps.classify (keeps.withdraw (w := w.setAgain p false) held state)
  · exact held

theorem ClassifyKeeps.settle (n : Nat) : ∀ w : Work, P w.s → P (Machine.settle n w).s := by
  induction n with
  | zero => exact fun w held => held
  | succ n ih =>
    intro w held
    unfold Machine.settle
    split
    · exact held
    · exact ih _ (keeps.reclassify held .a)
    · exact ih _ (keeps.reclassify held .b)
    · have drawn := keeps.choose w.s (draw w.s.choices 2).2 held
      split
      · exact ih _ (keeps.reclassify (w := { w with s := _ }) drawn .a)
      · exact ih _ (keeps.reclassify (w := { w with s := _ }) drawn .b)

/-! ## Discards and expiries -/

theorem ClassifyKeeps.dropSnapshots (held : P w.s) (p : Port) : P (w.dropSnapshots p).s := by
  unfold Work.dropSnapshots
  induction (w.s.snaps.get p).map Snapshot.entry generalizing w with
  | nil => exact held
  | cons e es ih => exact ih (keeps.dropSnapshot w p e held)

theorem ClassifyKeeps.dropRecords (held : P w.s) (p : Port) : P (w.dropRecords p).s := by
  unfold Work.dropRecords
  induction (w.s.recs.get p).map OpenRecord.entry generalizing w with
  | nil => exact held
  | cons e es ih => exact ih (keeps.dropRecord w p e held)

theorem ClassifyKeeps.discardAll (held : P w.s) (p : Port) (kind : EventKind) : P (w.discardAll p kind).s :=
  keeps.dropRecords (keeps.dropSnapshots (w := w.report _) held p) p

theorem ClassifyKeeps.expireSnapshot (held : P w.s) (p : Port) (e : EntryIndex) : P (w.expireSnapshot p e).s := by
  unfold Work.expireSnapshot
  split
  · split
    · exact keeps.dropSnapshot (w.report _) p e held
    · exact held
  · exact held

theorem ClassifyKeeps.expireRecord (held : P w.s) (p : Port) (e : EntryIndex) : P (w.expireRecord p e).s := by
  unfold Work.expireRecord
  split
  · split
    · exact keeps.dropRecord (w.report _) p e held
    · exact held
  · exact held

/-- A HELD access that is answered gives its request up; the two updates may come in either order. -/
theorem ClassifyKeeps.answerHeld {x : PortState} (held : P w.s) (state : (w.s.ports.get p).state = .held h)
    (settles : PortSettles x) : P ((w.setPortState p x).setWaiting p none).s := by
  have done := keeps.occupy _ p x (keeps.vacate w p h held state) settles
  have same : ((w.setPortState p x).setWaiting p none).s
      = (((w.setPortState p .idle).setWaiting p none).setPortState p x).s := by
    cases p <;> rfl
  rw [same]
  exact done

theorem ClassifyKeeps.expireHold (held : P w.s) (p : Port) : P (w.expireHold p).s := by
  unfold Work.expireHold
  split
  · next h state =>
    split
    · have gone := fun r => keeps.answerHeld (w := w.report r) (h := h) held state
        (portSettles_answered h.released (answerFits_error h.access))
      rcases withdraw_cases _ p with k | ⟨e, k⟩ <;> rw [k]
      · exact gone _
      · exact keeps.dropSnapshot _ p e (gone _)
    · exact held
  · exact held

end Classify

end Sys2Proof.Machine
end

section
/-! PROOFS. What every step keeps: a predicate that looks at the table, the snapshots and records, the claims, the ports and
the memory port, and that the moves of a classification and the other updates of a command keep, is kept by every step. -/

namespace Sys2Proof.Machine

open Sys2Proof

/-- Two states agree in all but the queue of events, the link, the time base, the pins, the draws and the commands that
wait. -/
structure SameCore (s t : State) : Prop where
  table : t.table = s.table
  snaps : t.snaps = s.snaps
  recs : t.recs = s.recs
  queue : t.queue = s.queue
  claims : t.claims = s.claims
  ports : t.ports = s.ports
  mem : t.mem = s.mem
  inReset : t.inReset = s.inReset

/-- What a sampling of strobes or a setting makes of a port: its reset line stays, and its state at most notes a release. -/
structure PortNotes (x y : HostPort) : Prop where
  resetLow : y.resetLow = x.resetLow
  state : y.state = x.state ∨ ∃ sample, y.state = x.state.afterRelease sample

/-- What the moves of every command keep: those of a classification, and those of the ports, the memory port and the table. -/
structure StepKeeps (P : State → Prop) (F : Port → State → Prop) : Prop extends ClassifyKeeps P F where
  core : ∀ s t : State, SameCore s t → P s → P t
  arrive : ∀ (s : State) (p : Port), P s → s.takesArrival p = true → F p (s.begin.arrive p).s
  notes : ∀ (w : Work) (p : Port) (x : HostPort), P w.s → PortNotes (w.s.ports.get p) x → P (w.setPort p x).s
  retry : ∀ (w : Work) (n : Nat), P w.s → P (w.setMem { w.s.mem with retryLimit := n }).s
  retouchFlight : ∀ (w : Work) (f g : InFlight), P w.s → w.s.mem.inFlight = some f → g.transfer = f.transfer →
    P (w.setInFlight (some g)).s
  endFlight : ∀ (w : Work) (f : InFlight), P w.s → w.s.mem.inFlight = some f →
    f.transfer.purpose.requester ≠ .commit → P (w.setInFlight none).s
  answerRunning : ∀ (w : Work) (p : Port) (r : Running) (x : PortState), P w.s →
    (w.s.ports.get p).state = .inTransfer r → PortSettles x → P (w.setPortState p x).s
  commitDone : ∀ (v w : Work) (f : InFlight), P v.s → v.s.mem.inFlight = some f →
    f.transfer.purpose.requester = .commit → w.s = (v.setInFlight none).s → P w.commitDone.s
  commitFailed : ∀ (v w : Work) (f : InFlight), P v.s → v.s.mem.inFlight = some f →
    f.transfer.purpose.requester = .commit → w.s = (v.setInFlight none).s → P (w.commitFailed f.attempts).s
  grantNext : ∀ w : Work, P w.s → P w.grantNext.s
  portReset : ∀ (s : State) (p : Port), P s →
    P (((s.begin.setPort p (s.ports.get p).portReset).orphanTransfer p).setWaiting p none).s
  portResetInReset : ∀ (s : State) (p : Port), P s → s.inReset = true →
    P (s.begin.setPort p (s.ports.get p).portReset).s
  portRelease : ∀ (s : State) (p : Port), P s → (s.ports.get p).resetLow = true →
    P (s.begin.setPort p (s.ports.get p).portRelease).s
  flushAccess : ∀ (w : Work) (p : Port), P w.s → P (w.flushAccess p).s
  editEntry : ∀ (w : Work) (e : EntryIndex) (c : Content), P w.s → P (w.editEntry e c).1.s
  deleteContent : ∀ (w : Work) (e : EntryIndex), P w.s → P (w.deleteContent e).1.s
  clearPoison : ∀ (w : Work) (e : EntryIndex), P w.s → P (w.clearPoison e).1.s
  deviceReset : ∀ s : State, P s.deviceReset
  deviceRelease : ∀ s : State, P s → s.inReset = true → P
    { s with ports := ⟨s.ports.a.deviceRelease, s.ports.b.deviceRelease⟩, inReset := false }
  countTick : ∀ s : State, P s → P s.countTick

theorem sameCore_drivePins (s : State) : SameCore s s.drivePins := ⟨rfl, rfl, rfl, rfl, rfl, rfl, rfl, rfl⟩

/-- The end of an event touches the queue of events, the draws, the pins and the mark of a tick. -/
theorem sameCore_close (w : Work) : SameCore w.s w.close := ⟨rfl, rfl, rfl, rfl, rfl, rfl, rfl, rfl⟩

@[simp] theorem reportRecovered_s (w : Work) (f : InFlight) : (w.reportRecovered f).s = w.s := by
  unfold Work.reportRecovered
  split <;> rfl

/-- The attempt a strobe meets is the one in flight (R96). -/
theorem inFlight_of_attemptMet {s : State} {x : MemoryStrobe} {f : InFlight} (met : s.attemptMet x = some f) :
    s.mem.inFlight = some f := by
  unfold State.attemptMet at met
  split at met <;> simp_all

section Step
variable {P : State → Prop} {F : Port → State → Prop} (keeps : StepKeeps P F)
include keeps

variable {w : Work} {s : State}

theorem StepKeeps.close (held : P w.s) : P w.close := keeps.core _ _ (sameCore_close w) held

theorem StepKeeps.finish (held : P w.s) : P w.finish := keeps.close (keeps.settle _ w held)

/-! ## Ends of transfers -/

theorem StepKeeps.replyTransfer {p : Port} {f : InFlight} {r : Running} (held : P w.s)
    (running : w.s.runningOf p f = some r) {ans : Answer} (fits : AnswerFits r.access ans) :
    P (w.replyTransfer p r ans).s := by
  have state : (w.s.ports.get p).state = .inTransfer r := by
    unfold State.runningOf at running
    split at running
    · contradiction
    · split at running <;> simp_all
  refine keeps.answerRunning w p r _ held state (portSettles_answered _ ?_)
  split
  · exact answerFits_error _
  · exact fits

theorem StepKeeps.plainDone (held : P w.s) (p : Port) (f : InFlight) (d : Word) : P (w.plainDone p f d).s := by
  unfold Work.plainDone
  split
  · exact held
  · next running => exact keeps.replyTransfer held running (answerFits_ok _ d)

theorem StepKeeps.plainFailed (held : P w.s) (p : Port) (f : InFlight) : P (w.plainFailed p f).s := by
  unfold Work.plainFailed
  dsimp only
  split
  · exact held
  · next running => exact keeps.replyTransfer (w := w.report _) held running (answerFits_error _)

theorem StepKeeps.fillDone (held : P w.s) (p : Port) (e : EntryIndex) (f : InFlight) (data : List Word) :
    P (w.fillDone p e f data).s := by
  unfold Work.fillDone
  split
  · exact held
  · next r running =>
    split
    · split
      · exact keeps.replyTransfer held running (answerFits_error _)
      · next c _ _ _ =>
        have answered := keeps.replyTransfer held running
          (answerFits_ok r.access (snapshotWord data c r.access))
        dsimp only
        split
        · exact keeps.dropSnapshot _ p e answered
        · refine keeps.retouchSnaps (w.replyTransfer p r _) p _ answered fun x => ?_
          unfold withFill
          split <;> rfl
    · exact keeps.replyTransfer held running (answerFits_error _)

theorem StepKeeps.fillFailed (held : P w.s) (p : Port) (a : ByteAddr) (e : EntryIndex) (f : InFlight) :
    P (w.fillFailed p a e f).s := by
  unfold Work.fillFailed
  dsimp only
  split
  · exact held
  · next r running =>
    have answered := fun x => keeps.replyTransfer (w := w.report x) held running (answerFits_error r.access)
    split
    · exact answered _
    · exact keeps.dropSnapshot _ p e (answered _)

theorem StepKeeps.transferDone {f : InFlight} (held : P w.s) (flying : w.s.mem.inFlight = some f) (words : List Word) :
    P (w.transferDone f words).s := by
  unfold Work.transferDone
  have ended : f.transfer.purpose.requester ≠ .commit → P ((w.setInFlight none).reportRecovered f).s := fun other => by
    rw [reportRecovered_s]
    exact keeps.endFlight w f held flying other
  dsimp only
  split
  · next purpose => exact keeps.plainDone (ended (by simp [purpose, Purpose.requester])) _ f _
  · next purpose => exact keeps.fillDone (ended (by simp [purpose, Purpose.requester])) _ _ f _
  · next purpose =>
    exact keeps.commitDone w _ f held flying (by rw [purpose]; rfl) (reportRecovered_s _ f)

theorem StepKeeps.transferFailed {f : InFlight} (held : P w.s) (flying : w.s.mem.inFlight = some f) :
    P (w.transferFailed f).s := by
  unfold Work.transferFailed
  have ended : f.transfer.purpose.requester ≠ .commit → P (w.setInFlight none).s := keeps.endFlight w f held flying
  dsimp only
  split
  · next purpose => exact keeps.plainFailed (ended (by simp [purpose, Purpose.requester])) _ f
  · next purpose => exact keeps.fillFailed (ended (by simp [purpose, Purpose.requester])) _ _ _ f
  · next purpose => exact keeps.commitFailed w _ f held flying (by rw [purpose]; rfl) rfl

/-! ## Attempts -/

theorem StepKeeps.attemptFailed {f : InFlight} (held : P w.s) (flying : w.s.mem.inFlight = some f) :
    P (w.attemptFailed f).s := by
  unfold Work.attemptFailed
  split
  · exact keeps.retouchFlight w f _ held flying rfl
  · exact keeps.transferFailed held flying

theorem StepKeeps.takeWord {f : InFlight} (held : P w.s) (flying : w.s.mem.inFlight = some f) (d : Word)
    (m : BitVec 2) : P (w.takeWord f d m).s := by
  unfold Work.takeWord
  split
  · exact keeps.attemptFailed held flying
  · dsimp only
    split
    · exact keeps.transferDone held flying _
    · exact keeps.retouchFlight w f _ held flying rfl

theorem StepKeeps.takeAnswer {f : InFlight} (held : P w.s) (flying : w.s.mem.inFlight = some f) (m : BitVec 2) :
    P (w.takeAnswer f m).s := by
  unfold Work.takeAnswer
  split
  · exact keeps.transferDone held flying _
  · exact keeps.attemptFailed held flying

/-! ## Ticks -/

theorem StepKeeps.expireAnswer (held : P w.s) : P w.expireAnswer.s := by
  unfold Work.expireAnswer
  split
  · next flying =>
    split
    · exact keeps.attemptFailed held flying
    · exact held
  · exact held

theorem StepKeeps.expire (held : P w.s) : ∀ d, P (w.expire d).s
  | .snapshot p e => keeps.expireSnapshot held p e
  | .record p e => keeps.expireRecord held p e
  | .hold p => keeps.expireHold held p
  | .answer => keeps.expireAnswer held

theorem StepKeeps.expireOverdue (n : Nat) : ∀ s : State, P s → P (State.expireOverdue n s) := by
  induction n with
  | zero => exact fun s held => held
  | succ n ih =>
    intro s held
    unfold State.expireOverdue
    split
    · exact held
    · exact ih _ (keeps.finish (keeps.expire (w := State.begin _) (keeps.choose s _ held) _))

/-! ## The link -/

theorem StepKeeps.setLink (held : P w.s) (l : Link) : P (w.setLink l).s :=
  keeps.core w.s _ ⟨rfl, rfl, rfl, rfl, rfl, rfl, rfl, rfl⟩ held

theorem StepKeeps.flushPorts (held : P w.s) (ps : List Port) : P (w.flushPorts ps).s := by
  have ended : P (ps.foldl Work.flushAccess w).s := by
    induction ps generalizing w with
    | nil => exact held
    | cons p ps ih => exact ih (keeps.flushAccess w p held)
  unfold Work.flushPorts
  generalize ps.foldl Work.flushAccess w = v at ended
  induction ps generalizing v with
  | nil => exact ended
  | cons p ps ih => exact ih _ (keeps.discardAll ended p .flushed)

theorem StepKeeps.setHoldLimits (held : P w.s) (n : Nat) (ps : List Port) :
    P (ps.foldl (Work.setHoldLimit · n ·) w).s := by
  induction ps generalizing w with
  | nil => exact held
  | cons p ps ih => exact ih (keeps.notes w p _ held ⟨rfl, .inl rfl⟩)

theorem StepKeeps.takeCommand (held : P w.s) (args : List Byte) : ∀ cmd, P (w.takeCommand args cmd).1.s := by
  intro cmd
  cases cmd <;> dsimp only [Work.takeCommand]
  case readStatus => exact held
  case setTimebase =>
    unfold Work.takeSetTimebase
    dsimp only
    split
    · exact keeps.core w.s _ ⟨rfl, rfl, rfl, rfl, rfl, rfl, rfl, rfl⟩ held
    · exact held
  case setHold =>
    unfold Work.takeSetHold
    split
    · exact held
    · split
      · exact keeps.setHoldLimits held _ _
      · exact held
  case setRetry =>
    unfold Work.takeSetRetry
    dsimp only
    split
    · exact keeps.retry w _ held
    · exact held
  case setAlert =>
    unfold Work.takeSetAlert
    dsimp only
    split
    · exact keeps.core w.s _ ⟨rfl, rfl, rfl, rfl, rfl, rfl, rfl, rfl⟩ held
    · exact held
  case writeEntry =>
    unfold Work.takeWriteEntry
    split
    · exact keeps.editEntry w _ _ held
    · exact held
  case deleteEntry =>
    unfold Work.takeDeleteEntry
    split
    · exact keeps.deleteContent w _ held
    · exact held
  case readEntry =>
    unfold Work.takeReadEntry
    split <;> exact held
  case clearPoison =>
    unfold Work.takeClearPoison
    split
    · exact keeps.clearPoison w _ held
    · exact held
  case peekEvents => exact held
  case ackEvents =>
    unfold Work.takeAckEvents
    split
    · exact keeps.core w.s _ ⟨rfl, rfl, rfl, rfl, rfl, rfl, rfl, rfl⟩ held
    · exact held
  case flush =>
    unfold Work.takeFlush
    split
    · exact keeps.flushPorts held _
    · exact held

theorem StepKeeps.carryOut (held : P w.s) : ∀ v, P (w.carryOut v).s
  | .discarded _ => held
  | .nop => held
  | .taken code tag args => by
    have decided : P (w.decideRequest code args).1.s := by
      unfold Work.decideRequest
      split
      · exact held
      · split
        · exact keeps.takeCommand held args _
        · exact held
    exact keeps.setLink decided _

theorem StepKeeps.releaseSelect (held : P s) (bytes : List Byte) : P (s.releaseSelect bytes) := by
  have deselected : P s.begin.deselect.s := keeps.setLink (w := s.begin) held _
  unfold State.releaseSelect
  split
  · exact keeps.close deselected
  · exact keeps.finish (keeps.carryOut deselected _)

/-! ## Every command, and every step -/

theorem StepKeeps.pastTick (held : P s) : P s.pastTick :=
  keeps.core s _ ⟨rfl, rfl, rfl, rfl, rfl, rfl, rfl, rfl⟩ held

/-- Every command answers a next state that keeps `P`. -/
theorem StepKeeps.exec (held : P s) (i : Instr) : ∃ t, exec i s = .next t ∧ P t := by
  have past : ∃ t, Host.Outcome.next (φ := Fault) (ρ := Refusal) s.pastTick = .next t ∧ P t :=
    ⟨_, rfl, keeps.pastTick held⟩
  have link : ∀ bytes, ∃ t, Host.Outcome.next (φ := Fault) (ρ := Refusal) (s.releaseSelect bytes) = .next t ∧ P t :=
    fun bytes => ⟨_, rfl, keeps.releaseSelect held bytes⟩
  cases i <;> dsimp only [Machine.exec]
  case deviceReset => exact ⟨_, rfl, keeps.deviceReset s⟩
  case deviceResetRelease =>
    unfold execDeviceResetRelease
    split
    · exact ⟨_, rfl, keeps.core _ _ (sameCore_drivePins _) (keeps.deviceRelease s held ‹_›)⟩
    · exact past
  case portReset p =>
    unfold execPortReset
    split
    · exact past
    · split
      · next during => exact ⟨_, rfl, keeps.close (keeps.portResetInReset s p held during)⟩
      · exact ⟨_, rfl, keeps.finish (keeps.discardAll (keeps.portReset s p held) p .portReset)⟩
  case portResetRelease p =>
    unfold execPortResetRelease
    split
    · next low => exact ⟨_, rfl, keeps.close (keeps.portRelease s p held low)⟩
    · exact past
  case portAArrival selected strobes addr data =>
    unfold execPortAArrival
    dsimp only
    split
    · next taken =>
      have free := keeps.arrive s .a held (by simp_all)
      split
      · exact ⟨_, rfl, keeps.finish (keeps.reply free (answerFits_error _))⟩
      · exact ⟨_, rfl, keeps.finish (keeps.classify free)⟩
      · exact ⟨_, rfl, keeps.finish (keeps.classify free)⟩
    · exact ⟨_, rfl, keeps.finish (keeps.notes s.begin .a _ held ⟨rfl, .inl rfl⟩)⟩
  case portBArrival word isWrite enabled data =>
    unfold execPortBArrival
    dsimp only
    split
    · next taken =>
      have free := keeps.arrive s .b held taken
      split
      · exact ⟨_, rfl, keeps.finish (keeps.reply free (answerFits_ok _ _))⟩
      · exact ⟨_, rfl, keeps.finish (keeps.classify free)⟩
    · exact ⟨_, rfl, keeps.finish (keeps.notes s.begin .b _ held ⟨rfl, .inl rfl⟩)⟩
  case strobeRelease sample =>
    refine ⟨_, rfl, keeps.finish (keeps.notes s.begin (sampledPort sample) _ held ?_)⟩
    unfold HostPort.sampled
    split
    · exact ⟨rfl, .inl rfl⟩
    · exact ⟨rfl, .inr ⟨sample, rfl⟩⟩
  case tick =>
    unfold execTick
    split
    · exact ⟨_, rfl, held⟩
    · exact ⟨_, rfl, keeps.countTick _ (keeps.expireOverdue _ s held)⟩
  case snapshotLimitExpiry p e => exact ⟨_, rfl, keeps.finish (keeps.expireSnapshot (w := s.begin) held p e)⟩
  case stagingLimitExpiry p e => exact ⟨_, rfl, keeps.finish (keeps.expireRecord (w := s.begin) held p e)⟩
  case holdLimitExpiry p => exact ⟨_, rfl, keeps.finish (keeps.expireHold (w := s.begin) held p)⟩
  case memoryAnswerLimitExpiry => exact ⟨_, rfl, keeps.finish (keeps.expireAnswer (w := s.begin) held)⟩
  case grant => exact ⟨_, rfl, keeps.finish (keeps.grantNext s.begin held)⟩
  case memoryReadWord data strobe =>
    unfold execMemoryReadWord
    split
    · next f met =>
      have flying := inFlight_of_attemptMet met
      split
      · exact ⟨_, rfl, keeps.finish (keeps.takeWord (w := s.begin) held flying data strobe.mst)⟩
      · exact past
    · exact past
  case memoryWriteAnswer strobe =>
    unfold execMemoryWriteAnswer
    split
    · next f met =>
      have flying := inFlight_of_attemptMet met
      split
      · exact past
      · exact ⟨_, rfl, keeps.finish (keeps.takeAnswer (w := s.begin) held flying strobe.mst)⟩
    · exact past
  case mselnAssert =>
    unfold execMselnAssert
    split
    · exact ⟨_, rfl, keeps.close (keeps.setLink (w := s.begin) held _)⟩
    · exact past
  case requestCompletion => exact ⟨_, rfl, keeps.close (keeps.setLink (w := s.begin) held _)⟩
  case discardedFrame mdi =>
    unfold execDiscardedFrame
    split
    · exact ⟨_, rfl, keeps.close (keeps.setLink (w := s.begin) held _)⟩
    · exact link _
  all_goals exact link _

/-- Every step keeps `P`. -/
theorem StepKeeps.step {t : State} (held : P s) (next : step s = .next t) : P t := by
  unfold Machine.step at next
  split at next
  · cases next
    rcases s.clockPeriod_cases with k | ⟨-, k⟩ <;> rw [k]
    · exact keeps.pastTick held
    · exact keeps.core s _ ⟨rfl, rfl, rfl, rfl, rfl, rfl, rfl, rfl⟩ held
  · next c rest _ =>
    obtain ⟨u, row, kept⟩ := keeps.exec (s := { s with pending := rest })
      (keeps.core s _ ⟨rfl, rfl, rfl, rfl, rfl, rfl, rfl, rfl⟩ held) c
    rw [row] at next
    cases next
    exact kept

end Step

end Sys2Proof.Machine
end

section
/-! PROOFS. What the shared operations leave, field by field: fills withdrawn, the engine taking a head, leavings, and the
discards of a poisoning. -/

namespace Sys2Proof.Machine

open Sys2Proof

/-! ## Entries and claim holders of a state -/

@[simp] theorem withEntry_entry (s : State) (e : EntryIndex) (x : Entry) : (s.withEntry e x).entry e = x := by
  simp [State.withEntry, State.entry]

theorem withEntry_entry_ne (s : State) {e f : EntryIndex} (x : Entry) (ne : f ≠ e) :
    (s.withEntry e x).entry f = s.entry f := by
  have : (e : Nat) ≠ (f : Nat) := fun h => ne (Fin.ext h.symm)
  simp [State.withEntry, State.entry, this]

@[simp] theorem withClaim_entry (s : State) (e f : EntryIndex) (h : Option Port) :
    (s.withClaim e h).entry f = s.entry f := rfl

@[simp] theorem withClaim_claims (s : State) (e : EntryIndex) (h : Option Port) : (s.withClaim e h).claims[e] = h := by
  simp [State.withClaim]

theorem withClaim_claims_ne (s : State) {e f : EntryIndex} (h : Option Port) (ne : f ≠ e) :
    (s.withClaim e h).claims[f] = s.claims[f] := by
  have : (e : Nat) ≠ (f : Nat) := fun h => ne (Fin.ext h.symm)
  simp [State.withClaim, this]

@[simp] theorem claimChecked_entry (s : State) (p : Port) (e f : EntryIndex) :
    (s.claimChecked p e).entry f = s.entry f := by
  unfold State.claimChecked
  split <;> rfl

section ClaimChecked
variable (s : State) (p : Port) (e : EntryIndex)

/-- A claim's check changes the holder alone (R87). -/
theorem claimChecked_eq : s.claimChecked p e = { s with claims := (s.claimChecked p e).claims } := by
  unfold State.claimChecked
  split <;> rfl

@[simp] theorem claimChecked_snaps : (s.claimChecked p e).snaps = s.snaps := by rw [claimChecked_eq]
@[simp] theorem claimChecked_recs : (s.claimChecked p e).recs = s.recs := by rw [claimChecked_eq]
@[simp] theorem claimChecked_queue : (s.claimChecked p e).queue = s.queue := by rw [claimChecked_eq]
@[simp] theorem claimChecked_ports : (s.claimChecked p e).ports = s.ports := by rw [claimChecked_eq]
@[simp] theorem claimChecked_mem : (s.claimChecked p e).mem = s.mem := by rw [claimChecked_eq]
@[simp] theorem claimChecked_inReset : (s.claimChecked p e).inReset = s.inReset := by rw [claimChecked_eq]
@[simp] theorem claimChecked_table : (s.claimChecked p e).table = s.table := by rw [claimChecked_eq]
end ClaimChecked

/-! ## Fills withdrawn (R103) -/

/-- A port's waiting request after the withdrawal of its fill of the entry, if that is what waits. -/
def State.fillWithdrawn (s : State) (p : Port) (e : EntryIndex) : Option Transfer :=
  if s.noFillWaits p e = true then s.mem.waiting.get p else none

theorem withdrawFill_eq_setWaiting (w : Work) (p : Port) (e : EntryIndex) :
    w.withdrawFill p e = w.setWaiting p (w.s.fillWithdrawn p e) := by
  have same : w.setWaiting p (w.s.mem.waiting.get p) = w := by unfold Work.setWaiting; rw [PerPort.set_get]; rfl
  unfold State.fillWithdrawn
  split
  · next quiet => rw [Work.withdrawFill_eq quiet, same]
  · next fill =>
    unfold State.noFillWaits at fill
    unfold Work.withdrawFill
    split
    · split <;> simp_all
    · simp_all

/-! ## Leavings (R15, R22) -/

/-- An entry that a user has left: the last user of a DRAINING entry installs the replacement. -/
def Entry.left : Entry → Entry
  | .active c v u => .active c v (u - 1)
  | .draining c v u r => if u ≤ 1 then r.installed else .draining c v (u - 1) r
  | x => x

/-- The claim holder that is left with it: an install leaves none (R86). -/
def Entry.holderLeft (x : Entry) (h : Option Port) : Option Port :=
  match x with
  | .draining _ _ u _ => if u ≤ 1 then none else h
  | _ => h

/-- A state in which a user has left an entry, the events of the leaving apart. -/
def State.left (s : State) (e : EntryIndex) : State :=
  (s.withEntry e (s.entry e).left).withClaim e ((s.entry e).holderLeft s.claims[e])

theorem withEntry_self (s : State) (e : EntryIndex) : s.withEntry e (s.entry e) = s := by
  simp [State.withEntry, State.entry]

theorem withClaim_self (s : State) (e : EntryIndex) : s.withClaim e s.claims[e] = s := by
  simp [State.withClaim]

/-- What a leaving makes of the state depends on the state alone. -/
@[simp] theorem leave_s (w : Work) (e : EntryIndex) : (w.leave e).s = w.s.left e := by
  have kept : ∀ x, (w.s.withEntry e x).withClaim e w.s.claims[e] = w.s.withEntry e x :=
    fun x => withClaim_self (w.s.withEntry e x) e
  unfold Work.leave State.left
  split
  · next h => simp only [h, Entry.left, Entry.holderLeft, kept]; rfl
  · next h =>
    simp only [h, Entry.left, Entry.holderLeft]
    split
    · exact Work.installReplacement_s w e _
    · rw [kept]; rfl
  · next idle drained =>
    have same : (w.s.entry e).left = w.s.entry e ∧ (w.s.entry e).holderLeft w.s.claims[e] = w.s.claims[e] := by
      cases h : w.s.entry e with
      | active c v u => exact absurd h (idle c v u)
      | draining c v u r => exact absurd h (drained c v u r)
      | _ => exact ⟨rfl, rfl⟩
    rw [same.1, same.2, kept, withEntry_self]

@[simp] theorem left_entry (s : State) (e : EntryIndex) : (s.left e).entry e = (s.entry e).left := by
  simp [State.left]

theorem left_entry_ne (s : State) {e f : EntryIndex} (ne : f ≠ e) : (s.left e).entry f = s.entry f := by
  simp [State.left, withEntry_entry_ne s _ ne]

@[simp] theorem left_claims (s : State) (e : EntryIndex) :
    (s.left e).claims[e] = (s.entry e).holderLeft s.claims[e] :=
  withClaim_claims _ e _

theorem left_claims_ne (s : State) {e f : EntryIndex} (ne : f ≠ e) : (s.left e).claims[f] = s.claims[f] := by
  rw [State.left, withClaim_claims_ne _ _ ne]; rfl

section Left
variable (s : State) (e : EntryIndex)
@[simp] theorem left_snaps : (s.left e).snaps = s.snaps := rfl
@[simp] theorem left_recs : (s.left e).recs = s.recs := rfl
@[simp] theorem left_queue : (s.left e).queue = s.queue := rfl
@[simp] theorem left_ports : (s.left e).ports = s.ports := rfl
@[simp] theorem left_mem : (s.left e).mem = s.mem := rfl
@[simp] theorem left_inReset : (s.left e).inReset = s.inReset := rfl
end Left

/-! ## Snapshots and records that leave -/

theorem dropSnapshot_s {w : Work} {p : Port} {e : EntryIndex} {x : Snapshot} (on : w.s.snapshotOn p e = some x) :
    (w.dropSnapshot p e).s =
      State.left ((w.s.withSnaps p ((w.s.snaps.get p).eraseP fun x => x.entry == e)).withWaiting p
        (w.s.fillWithdrawn p e)) e := by
  rw [Work.dropSnapshot_some on, leave_s, Work.noticeSlot_s, withdrawFill_eq_setWaiting]
  rfl

theorem dropRecord_s {w : Work} {p : Port} {e : EntryIndex} {r : OpenRecord} (on : w.s.recordOn p e = some r) :
    (w.dropRecord p e).s =
      State.left ((w.s.withRecs p ((w.s.recs.get p).eraseP fun r => r.entry == e)).claimChecked p e) e := by
  rw [Work.dropRecord_some on, leave_s, Work.releaseClaim_s, Work.noticeRecord_s]
  rfl

/-! ## Users that join, and the versions that rise -/

/-- An entry that a user has joined (R14). -/
def Entry.joined : Entry → Entry
  | .active c v u => .active c v (u + 1)
  | x => x

/-- An entry whose version has risen (R13). -/
def Entry.raised : Entry → Entry
  | .active c v u => .active c (v + 1) u
  | .draining c v u r => .draining c (v + 1) u r
  | x => x

@[simp] theorem join_s (w : Work) (e : EntryIndex) : (w.join e).s = w.s.withEntry e (w.s.entry e).joined := by
  unfold Work.join
  split
  · next h => rw [h]; rfl
  · next live =>
    have same : (w.s.entry e).joined = w.s.entry e := by
      cases h : w.s.entry e with
      | active c v u => exact absurd h (live c v u)
      | _ => rfl
    rw [same, withEntry_self]

@[simp] theorem raiseVersion_s (w : Work) (e : EntryIndex) :
    (w.raiseVersion e).s = w.s.withEntry e (w.s.entry e).raised := by
  unfold Work.raiseVersion
  split
  · next h => rw [h]; rfl
  · next h => rw [h]; rfl
  · next live drained =>
    have same : (w.s.entry e).raised = w.s.entry e := by
      cases h : w.s.entry e with
      | active c v u => exact absurd h (live c v u)
      | draining c v u r => exact absurd h (drained c v u r)
      | _ => rfl
    rw [same, withEntry_self]

/-! ## Records opened and enqueued -/

theorem openSnapshot_s (w : Work) (p : Port) (h : Held) (e : EntryIndex) (c : Content) :
    (w.openSnapshot p h e c).s =
      (((w.s.withSnaps p (w.s.snaps.get p ++ [{ entry := e, state := .filling }])).withEntry e
        (w.s.entry e).joined).withWaiting p (some (fillTransfer p h.access e c))).withPort p
          (.held { h with cause := .memory, entry := some e }) := by
  have joined := join_s (w.setSnaps p (w.s.snaps.get p ++ [{ entry := e, state := .filling }])) e
  simp only [Work.openSnapshot, Work.hold, Work.setPortState, Work.setPort, Work.setWaiting, Work.setMem]
  rw [joined]
  rfl

theorem openRecord_s (w : Work) (p : Port) (e : EntryIndex) (c : Content) :
    (w.openRecord p e c).s =
      (((w.s.withRecs p (w.s.recs.get p ++ [freshRecord e c])).withEntry e (w.s.entry e).joined).withClaim e
        (if c.claim = .exclusive then some p else w.s.claims[e])) := by
  have joined := join_s (w.setRecs p (w.s.recs.get p ++ [freshRecord e c])) e
  unfold Work.openRecord
  dsimp only
  split
  · simp only [Work.setClaim]
    rw [joined]
    rfl
  · rw [joined]
    exact (withClaim_self _ e).symm

/-- The burst the head of the queue asks for (R80, R81). -/
def State.headBurst (s : State) : Option Transfer :=
  s.queue.head?.bind fun r => ((s.entry r.entry).content?).map (commitTransfer r)

/-- The commit engine's waiting request replaced. -/
def State.withWaitingCommit (s : State) (t : Option Transfer) : State := { s with mem := { s.mem with waitingCommit := t } }

@[simp] theorem takeHead_s (w : Work) :
    w.takeHead.s = w.s.withWaitingCommit ((w.s.headBurst).or w.s.mem.waitingCommit) := by
  unfold Work.takeHead State.headBurst
  split
  · next h => simp [h]; rfl
  · next r _ h =>
    cases k : (w.s.entry r.entry).content? <;> simp [h, k] <;> rfl

theorem enqueue_s (w : Work) (r : CommitRecord) :
    (w.enqueue r).s =
      if w.s.queue = [] then
        State.withWaitingCommit { w.s with queue := [r] }
          (((w.s.entry r.entry).content?.map (commitTransfer r)).or w.s.mem.waitingCommit)
      else { w.s with queue := w.s.queue ++ [r] } := by
  unfold Work.enqueue
  by_cases empty : w.s.queue = []
  · simp only [empty, List.isEmpty_nil, List.nil_append, if_true, takeHead_s, Work.setQueue, State.headBurst,
      List.head?_cons, Option.bind_some]
    rfl
  · simp only [List.isEmpty_iff, empty, if_false]
    rfl

/-! ## Ends of commits (R23, R81, R82) -/

theorem commitDone_s {w : Work} {r : CommitRecord} {rest : List CommitRecord} (head : w.s.queue = r :: rest) :
    w.commitDone.s =
      State.left
        (((State.withWaitingCommit { w.s with queue := rest }
          ((State.headBurst { w.s with queue := rest }).or w.s.mem.waitingCommit)).claimChecked r.port
            r.entry).withEntry r.entry (w.s.entry r.entry).raised) r.entry := by
  simp only [Work.commitDone, head, leave_s, raiseVersion_s, Work.releaseClaim_s, Work.noticeOwnCommit_s,
    Work.noticeRecord_s, takeHead_s, claimChecked_entry]
  rfl

theorem commitDone_nil {w : Work} (empty : w.s.queue = []) : w.commitDone = w := by
  simp [Work.commitDone, empty]

@[simp] theorem discardCommits_s (l : List CommitRecord) (w : Work) : (l.foldl Work.discardCommit w).s = w.s := by
  induction l generalizing w with
  | nil => rfl
  | cons r l ih => rw [List.foldl_cons, ih]; exact Work.noticeRecord_s _ _

/-- A port's waiting request after a poisoning has discarded its snapshots on the entry (R66). -/
def State.fillPoisoned (s : State) (p : Port) (e : EntryIndex) : Option Transfer :=
  if ((s.snaps.get p).any fun x => x.entry == e) = true then s.fillWithdrawn p e else s.mem.waiting.get p

theorem filter_of_any_false {α : Type} {l : List α} {f : α → EntryIndex} {e : EntryIndex}
    (none : ¬(l.any fun x => f x == e) = true) : (l.filter fun x => f x != e) = l := by
  rw [List.filter_eq_self]
  intro x hx
  simp only [List.any_eq_true, not_exists, not_and, beq_iff_eq] at none
  simpa using none x hx

@[simp] theorem poisonSnapshots_s (w : Work) (p : Port) (e : EntryIndex) :
    (w.poisonSnapshots p e).s =
      (w.s.withSnaps p ((w.s.snaps.get p).filter fun x => x.entry != e)).withWaiting p (w.s.fillPoisoned p e) := by
  unfold Work.poisonSnapshots State.fillPoisoned
  split
  · rw [Work.noticeSlot_s, withdrawFill_eq_setWaiting]
    rfl
  · next none =>
    rw [filter_of_any_false none, State.withSnaps, PerPort.set_get, State.withWaiting, PerPort.set_get]

@[simp] theorem poisonRecords_s (w : Work) (p : Port) (e : EntryIndex) :
    (w.poisonRecords p e).s = w.s.withRecs p ((w.s.recs.get p).filter fun r => r.entry != e) := by
  unfold Work.poisonRecords
  split
  · exact Work.noticeRecord_s _ _
  · next none => rw [filter_of_any_false none, State.withRecs, PerPort.set_get]

/-- What a poisoning leaves of snapshots or records. -/
def PerPort.filtered {α : Type} (x : PerPort (List α)) (f : α → Bool) : PerPort (List α) := ⟨x.a.filter f, x.b.filter f⟩

/-- The state a commit failure leaves, the engine's next request apart (R23, R66, R82). -/
def State.poisonedBy (s : State) (r : CommitRecord) (rest : List CommitRecord) (attempts : Nat) : State :=
  { s with
    table := s.table.set r.entry ((s.entry r.entry).poisonedBy { port := r.port, attempts := attempts })
    snaps := s.snaps.filtered fun x => x.entry != r.entry
    recs := s.recs.filtered fun x => x.entry != r.entry
    queue := rest.filter fun q => q.entry != r.entry
    claims := s.claims.set r.entry none
    mem := { s.mem with waiting := ⟨s.fillPoisoned .a r.entry, s.fillPoisoned .b r.entry⟩ } }

theorem commitFailed_s {w : Work} {r : CommitRecord} {rest : List CommitRecord} (head : w.s.queue = r :: rest)
    (attempts : Nat) :
    (w.commitFailed attempts).s =
      (w.s.poisonedBy r rest attempts).withWaitingCommit
        ((w.s.poisonedBy r rest attempts).headBurst.or w.s.mem.waitingCommit) := by
  simp only [Work.commitFailed, head]
  rw [takeHead_s, Work.noticeTable_s, Work.noticeClaim_s]
  have emptied : ∀ v : Work, v.s = { w.s with
        table := w.s.table.set r.entry ((w.s.entry r.entry).poisonedBy { port := r.port, attempts := attempts })
        queue := rest.filter fun q => q.entry != r.entry } →
      ((((((v.poisonSnapshots .a r.entry).poisonSnapshots .b r.entry).poisonRecords .a r.entry).poisonRecords .b
        r.entry)).setClaim r.entry none).s = w.s.poisonedBy r rest attempts := by
    intro v h
    simp only [Work.setClaim, poisonRecords_s, poisonSnapshots_s, h]
    rfl
  rw [emptied]
  · rfl
  · simp only [discardCommits_s, Work.setQueue, Work.noticeRecord_s]
    rfl

theorem commitFailed_nil {w : Work} (empty : w.s.queue = []) (attempts : Nat) : w.commitFailed attempts = w := by
  simp [Work.commitFailed, empty]

end Sys2Proof.Machine
end

section
/-! PROOFS. The table's extents (R18, R19): every update of a command reserves no more than before, but a WRITE_ENTRY, whose
content has passed both checks; and the statement O58. -/

namespace Sys2Proof.Proofs

open Sys2Proof Sys2Proof.Machine

/-! ## Entries that reserve no more -/

@[simp] theorem reserved_empty : Entry.empty.reserved = [] := rfl
@[simp] theorem reserved_active (c : Content) (v : BitVec 16) (u : Nat) : (Entry.active c v u).reserved = [c] := rfl
@[simp] theorem reserved_draining (c d : Content) (v : BitVec 16) (u : Nat) :
    (Entry.draining c v u (.content d)).reserved = [c, d] := rfl
@[simp] theorem reserved_deleted (c : Content) (v : BitVec 16) (u : Nat) :
    (Entry.draining c v u .delete).reserved = [c] := rfl

theorem mem_reserved_of_content {x : Entry} {c : Content} (content : x.content? = some c) : c ∈ x.reserved := by
  simp [Entry.reserved, content]

theorem mem_reserved_of_waits {x : Entry} {c : Content} (waits : x.replacement? = some (.content c)) :
    c ∈ x.reserved := by
  simp [Entry.reserved, waits]

/-- What a replacement installs was reserved by the entry that held it. -/
theorem reserved_installed {x : Entry} {r : Replacement} (waits : x.replacement? = some r) :
    r.installed.reserved ⊆ x.reserved := by
  cases r with
  | content d => simpa [Replacement.installed] using mem_reserved_of_waits waits
  | delete => exact List.nil_subset _

theorem reserved_left (x : Entry) : x.left.reserved ⊆ x.reserved := by
  cases x with
  | draining c v u r =>
    dsimp only [Entry.left]
    split
    · exact reserved_installed rfl
    · exact List.Subset.refl _
  | _ => exact List.Subset.refl _

theorem reserved_joined (x : Entry) : x.joined.reserved ⊆ x.reserved := by
  cases x <;> exact List.Subset.refl _

theorem reserved_raised (x : Entry) : x.raised.reserved ⊆ x.reserved := by
  cases x <;> exact List.Subset.refl _

theorem reserved_poisonedBy (x : Entry) (k : PoisonCause) : (x.poisonedBy k).reserved ⊆ x.reserved := by
  cases x <;> exact List.Subset.refl _

/-- No entry of the second state reserves an extent that the same entry of the first does not. -/
def ReservesWithin (s t : State) : Prop := ∀ e, (t.entry e).reserved ⊆ (s.entry e).reserved

theorem reservesWithin_refl (s : State) : ReservesWithin s s := fun _ => List.Subset.refl _

theorem reservesWithin_of_table {s t : State} (same : t.table = s.table) : ReservesWithin s t := fun e => by
  rw [State.entry, same]
  exact List.Subset.refl _

theorem ReservesWithin.withEntry {s t : State} {e : EntryIndex} {x : Entry} (within : ReservesWithin s t)
    (fewer : x.reserved ⊆ (s.entry e).reserved) : ReservesWithin s (t.withEntry e x) := by
  intro f
  by_cases same : f = e
  · subst same
    rw [withEntry_entry]
    exact fewer
  · rw [withEntry_entry_ne _ _ same]
    exact within f

theorem reservesWithin_left {s t : State} (within : ReservesWithin s t) (e : EntryIndex) :
    ReservesWithin s (t.left e) := by
  intro f
  by_cases same : f = e
  · subst same
    rw [left_entry]
    exact List.Subset.trans (reserved_left _) (within f)
  · rw [left_entry_ne _ same]
    exact within f

/-! ## The two invariants together -/

/-- R18 and R19 of a state. -/
def TableSound (s : State) : Prop := s.disjoint ∧ s.contentsLegal

theorem TableSound.within {s t : State} (sound : TableSound s) (within : ReservesWithin s t) : TableSound t :=
  ⟨fun e f ne c hc d hd => sound.1 e f ne c (within e hc) d (within f hd), fun e c hc => sound.2 e c (within e hc)⟩

theorem TableSound.of_table {s t : State} (sound : TableSound s) (same : t.table = s.table) : TableSound t :=
  sound.within (reservesWithin_of_table same)

theorem overlaps_comm (c d : Content) : c.overlaps d = d.overlaps c := by
  simp [Content.overlaps, Bool.and_comm]

/-- An entry whose extents are those it had, and one more that is legal and that no other index reserves. -/
theorem TableSound.withEntry {s : State} {e : EntryIndex} {x : Entry} {c : Content} (sound : TableSound s)
    (legal : c.legal = true) (free : s.overlapsOther e c = false)
    (reserved : ∀ d ∈ x.reserved, d ∈ (s.entry e).reserved ∨ d = c) : TableSound (s.withEntry e x) := by
  have apart : ∀ f, f ≠ e → ∀ d ∈ (s.entry f).reserved, c.overlaps d = false := by
    intro f ne d hd
    simp only [State.overlapsOther, List.any_eq_false, List.mem_finRange, true_implies, Bool.and_eq_true,
      List.any_eq_true, bne_iff_ne, not_and, not_exists, Bool.not_eq_true] at free
    exact free f ne d hd
  obtain ⟨disjoint, legals⟩ := sound
  constructor
  · intro f g ne a ha b hb
    by_cases hf : f = e
    · subst hf
      rw [withEntry_entry] at ha
      rw [withEntry_entry_ne _ _ (Ne.symm ne)] at hb
      rcases reserved a ha with old | rfl
      · exact disjoint f g ne a old b hb
      · exact apart g (Ne.symm ne) b hb
    · rw [withEntry_entry_ne _ _ hf] at ha
      by_cases hg : g = e
      · subst hg
        rw [withEntry_entry] at hb
        rcases reserved b hb with old | rfl
        · exact disjoint f g ne a ha b old
        · rw [overlaps_comm]
          exact apart f hf a ha
      · rw [withEntry_entry_ne _ _ hg] at hb
        exact disjoint f g ne a ha b hb
  · intro f a ha
    by_cases hf : f = e
    · subst hf
      rw [withEntry_entry] at ha
      rcases reserved a ha with old | rfl
      · exact legals f a old
      · exact legal
    · rw [withEntry_entry_ne _ _ hf] at ha
      exact legals f a ha

theorem TableSound.dropSnapshot {w : Work} (sound : TableSound w.s) (p : Port) (e : EntryIndex) :
    TableSound (w.dropSnapshot p e).s := by
  cases on : w.s.snapshotOn p e with
  | none => rwa [Work.dropSnapshot_none on]
  | some x =>
    rw [dropSnapshot_s on]
    exact sound.within (reservesWithin_left (reservesWithin_of_table rfl) e)

theorem TableSound.dropRecord {w : Work} (sound : TableSound w.s) (p : Port) (e : EntryIndex) :
    TableSound (w.dropRecord p e).s := by
  cases on : w.s.recordOn p e with
  | none => rwa [Work.dropRecord_none on]
  | some x =>
    rw [dropRecord_s on]
    refine sound.within (reservesWithin_left (fun f => ?_) e)
    rw [claimChecked_entry]
    exact List.Subset.refl _

theorem TableSound.openSnapshot {w : Work} (sound : TableSound w.s) (p : Port) (h : Held) (e : EntryIndex)
    (c : Content) : TableSound (w.openSnapshot p h e c).s := by
  rw [openSnapshot_s]
  exact sound.within ((reservesWithin_of_table rfl).withEntry (reserved_joined _))

theorem TableSound.openRecord {w : Work} (sound : TableSound w.s) (p : Port) (e : EntryIndex) (c : Content) :
    TableSound (w.openRecord p e c).s := by
  rw [openRecord_s]
  exact sound.within ((reservesWithin_of_table rfl).withEntry (reserved_joined _))

theorem TableSound.commitDone {w : Work} (sound : TableSound w.s) : TableSound w.commitDone.s := by
  cases head : w.s.queue with
  | nil => rwa [commitDone_nil head]
  | cons r rest =>
    rw [commitDone_s head]
    refine sound.within (reservesWithin_left (ReservesWithin.withEntry (fun f => ?_) (reserved_raised _)) _)
    rw [claimChecked_entry]
    exact List.Subset.refl _

theorem TableSound.commitFailed {w : Work} (sound : TableSound w.s) (n : Nat) : TableSound (w.commitFailed n).s := by
  cases head : w.s.queue with
  | nil => rwa [commitFailed_nil head]
  | cons r rest =>
    rw [commitFailed_s head]
    exact sound.within ((reservesWithin_refl w.s).withEntry (reserved_poisonedBy _ _))

/-! ## Table edits (R18 to R24) -/

theorem TableSound.reseat {w : Work} {e : EntryIndex} {x : Entry} (sound : TableSound (w.s.withEntry e x)) :
    TableSound (w.reseat e x).s := by
  rw [Work.reseat_s]
  exact sound.of_table rfl

theorem TableSound.editEntry {w : Work} (sound : TableSound w.s) (e : EntryIndex) (c : Content) :
    TableSound (w.editEntry e c).1.s := by
  unfold Work.editEntry
  split
  · next legal =>
    split
    · exact sound
    · next free =>
      have edited : ∀ x : Entry, (∀ d ∈ x.reserved, d ∈ (w.s.entry e).reserved ∨ d = c) →
          TableSound (w.s.withEntry e x) := fun x => sound.withEntry legal (by simpa using free)
      have installed : TableSound (w.s.withEntry e (.active c 0 0)) :=
        edited _ fun d hd => .inr (by simpa using hd)
      have waits : ∀ old v u, (w.s.entry e).content? = some old →
          TableSound (w.s.withEntry e (.draining old v u (.content c))) := by
        intro old v u content
        refine edited _ fun d hd => ?_
        simp only [reserved_draining, List.mem_cons, List.not_mem_nil, or_false] at hd
        rcases hd with rfl | rfl
        · exact .inl (mem_reserved_of_content content)
        · exact .inr rfl
      unfold Work.writeContent
      split
      · exact installed.reseat
      · next old v u h =>
        split
        · exact installed.reseat
        · exact waits old v u (by rw [h]; rfl)
      · next old v u _ h => exact waits old v u (by rw [h]; rfl)
      · exact installed.reseat
  · exact sound

theorem TableSound.withFewer {s : State} {e : EntryIndex} {x : Entry} (sound : TableSound s)
    (fewer : x.reserved ⊆ (s.entry e).reserved) : TableSound (s.withEntry e x) :=
  sound.within ((reservesWithin_refl s).withEntry fewer)

theorem TableSound.deleteContent {w : Work} (sound : TableSound w.s) (e : EntryIndex) :
    TableSound (w.deleteContent e).1.s := by
  have emptied : TableSound (w.reseat e .empty).s := (sound.withFewer (List.nil_subset _)).reseat
  have waits : ∀ c v u, (w.s.entry e).content? = some c → TableSound (w.setEntry e (.draining c v u .delete)).s := by
    refine fun c v u content => sound.withFewer (x := .draining c v u .delete) ?_
    simpa using mem_reserved_of_content content
  unfold Work.deleteContent
  split
  · exact sound
  · next c v u h =>
    split
    · exact emptied
    · exact waits c v u (by rw [h]; rfl)
  · next c v u _ h => exact waits c v u (by rw [h]; rfl)
  · exact emptied

theorem TableSound.clearPoison {w : Work} (sound : TableSound w.s) (e : EntryIndex) :
    TableSound (w.clearPoison e).1.s := by
  unfold Work.clearPoison
  split
  · exact sound
  · exact sound
  · exact sound
  · next c v k h =>
    refine (sound.withFewer ?_).reseat
    simpa using mem_reserved_of_content (by rw [h]; rfl)
  · next c v r k h =>
    rw [Work.installReplacement_s]
    exact (sound.withFewer (x := r.installed) (reserved_installed (by rw [h]; rfl))).of_table rfl

/-! ## Every step -/

theorem grantNext_table (w : Work) : w.grantNext.s.table = w.s.table := by
  unfold Work.grantNext
  split
  · dsimp only
    split <;> rfl
  · rfl

theorem enqueue_table (w : Work) (r : CommitRecord) : (w.enqueue r).s.table = w.s.table := by
  rw [enqueue_s]
  split <;> rfl

theorem orphanTransfer_table (w : Work) (p : Port) : (w.orphanTransfer p).s.table = w.s.table := by
  unfold Work.orphanTransfer
  split
  · split <;> rfl
  · rfl

theorem tableSound_deviceReset (s : State) : TableSound s.deviceReset := by
  have empty : ∀ e, (s.deviceReset.entry e).reserved = [] := by
    intro e
    simp [State.deviceReset, State.entry, State.reset, Entry.reserved, Entry.content?, Entry.replacement?]
  exact ⟨fun e f _ c hc => by simp [empty] at hc, fun e c hc => by simp [empty] at hc⟩

/-- Every command keeps R18 and R19. -/
theorem tableSound_kept : StepKeeps TableSound fun _ => TableSound where
  choose _ _ sound := sound.of_table rfl
  vacate _ _ _ sound _ := sound.of_table rfl
  occupy _ _ _ sound _ := sound.of_table rfl
  plain _ _ _ _ sound := sound.of_table rfl
  dropSnapshot _ p e sound := sound.dropSnapshot p e
  dropSnapshotFree _ p e sound := sound.dropSnapshot p e
  dropRecord _ p e sound := sound.dropRecord p e
  openSnapshot _ p h e c _ _ sound _ _ _ := sound.openSnapshot p h e c
  reopenSnapshot _ p h e c _ _ _ sound _ _ := (sound.dropSnapshot p e).openSnapshot p h e c
  retouchSnaps _ _ _ sound _ := sound.of_table rfl
  openRecord _ p e c _ _ sound _ _ _ _ := sound.openRecord p e c
  reopenRecord w p e c _ _ _ sound _ _ := by
    refine TableSound.openRecord ?_ p e c
    rw [leave_s]
    exact sound.within (reservesWithin_left (reservesWithin_of_table rfl) e)
  retouchRecs _ _ _ sound _ := sound.of_table rfl
  enqueue w p e bytes sound _ := sound.of_table (enqueue_table _ _)
  core _ _ same sound := sound.of_table same.table
  arrive _ _ sound _ := sound.of_table rfl
  notes _ _ _ sound _ := sound.of_table rfl
  retry _ _ sound := sound.of_table rfl
  retouchFlight _ _ _ sound _ _ := sound.of_table rfl
  endFlight _ _ sound _ _ := sound.of_table rfl
  answerRunning _ _ _ _ sound _ _ := sound.of_table rfl
  commitDone v w f sound _ _ ended := by
    refine TableSound.commitDone ?_
    rw [ended]
    exact sound.of_table rfl
  commitFailed v w f sound _ _ ended := by
    refine TableSound.commitFailed ?_ _
    rw [ended]
    exact sound.of_table rfl
  grantNext w sound := sound.of_table (grantNext_table w)
  portReset _ p sound := sound.of_table (orphanTransfer_table _ p)
  portResetInReset _ _ sound _ := sound.of_table rfl
  portRelease _ _ sound _ := sound.of_table rfl
  flushAccess _ _ sound := sound.of_table rfl
  editEntry _ e c sound := sound.editEntry e c
  deleteContent _ e sound := sound.deleteContent e
  clearPoison _ e sound := sound.clearPoison e
  deviceReset := tableSound_deviceReset
  deviceRelease _ sound _ := sound.of_table rfl
  countTick _ sound := sound.of_table rfl

/-- Settles O58. No update reserves more than before, but the taking of a WRITE_ENTRY, which is judged by R18 and R19
first. -/
theorem stepKeepsTableDisjointAndLegal : Obligations.StepKeepsTableDisjointAndLegal := by
  unfold Obligations.StepKeepsTableDisjointAndLegal
  exact fun s t disjoint legal next => tableSound_kept.step ⟨disjoint, legal⟩ next

end Sys2Proof.Proofs
end

section
/-! PROOFS. Tallies: what one entry of a state holds and who uses it (R14, R86), what the updates of a command make of the
tally of the entry they concern, and that they leave every other tally as it is. -/

namespace Sys2Proof.Machine

open Sys2Proof

/-! ## Counting on one entry -/

/-- The snapshots, or records, of a list that are on an entry. -/
def countOn {α : Type} (key : α → EntryIndex) (l : List α) (e : EntryIndex) : Nat := l.countP fun x => key x == e

section CountOn
variable {α : Type} {key : α → EntryIndex} (l : List α) (e f : EntryIndex)

@[simp] theorem countOn_nil : countOn key [] e = 0 := rfl

theorem countOn_pos : 0 < countOn key l e ↔ ∃ x ∈ l, key x = e := by
  simp [countOn, List.countP_pos_iff]

theorem countOn_append_one (x : α) : countOn key (l ++ [x]) e = countOn key l e + if key x = e then 1 else 0 := by
  simp [countOn, List.countP_append, List.countP_cons]

theorem countOn_map {g : α → α} (kept : ∀ x, key (g x) = key x) : countOn key (l.map g) e = countOn key l e := by
  simp [countOn, List.countP_map, Function.comp_def, kept]

theorem countOn_eraseP :
    countOn key (l.eraseP fun x => key x == e) f = countOn key l f - if f = e then 1 else 0 := by
  by_cases none : ∃ x ∈ l, key x = e
  · obtain ⟨x, hx, on⟩ := none
    obtain ⟨y, before, after, -, hy, split, erased⟩ := List.exists_of_eraseP hx (p := fun x => key x == e) (by simp [on])
    rw [erased, split]
    have hy : key y = e := by simpa using hy
    by_cases same : f = e
    · subst same
      simp [countOn, List.countP_append, hy]
    · simp [countOn, List.countP_append, hy, same, Ne.symm same]
  · have erased : l.eraseP (fun x => key x == e) = l := by
      rw [List.eraseP_of_forall_not]
      intro x hx
      simpa using fun on => none ⟨x, hx, on⟩
    rw [erased]
    split
    · next same =>
      subst same
      have zero : countOn key l f = 0 := Nat.eq_zero_of_not_pos fun pos => none ((countOn_pos l f).mp pos)
      omega
    · rfl

theorem countOn_filter :
    countOn key (l.filter fun x => key x != e) f = if f = e then 0 else countOn key l f := by
  unfold countOn
  rw [List.countP_filter]
  split
  · next same =>
    subst same
    rw [List.countP_eq_zero]
    simp
  · next ne =>
    congr 1
    funext x
    by_cases on : key x = f
    · simp [on, ne]
    · simp [on]

end CountOn

/-! ## Tallies -/

/-- An entry with its claim holder, and the snapshots, OPEN records and queued records of either port on it. -/
structure Tally where
  entry : Entry
  holder : Option Port
  snaps : PerPort Nat
  opens : PerPort Nat
  queued : PerPort Nat

/-- The queued records of a port. -/
def ofPort (p : Port) (l : List CommitRecord) : List CommitRecord := l.filter fun r => r.port == p

/-- The tally of an entry. -/
def State.tally (s : State) (e : EntryIndex) : Tally :=
  { entry := s.entry e
    holder := s.claims[e]
    snaps := ⟨countOn Snapshot.entry s.snaps.a e, countOn Snapshot.entry s.snaps.b e⟩
    opens := ⟨countOn OpenRecord.entry s.recs.a e, countOn OpenRecord.entry s.recs.b e⟩
    queued := ⟨countOn CommitRecord.entry (ofPort .a s.queue) e, countOn CommitRecord.entry (ofPort .b s.queue) e⟩ }

/-- The users of the tallied entry (R14). -/
def Tally.sum (t : Tally) : Nat := t.snaps.a + t.snaps.b + t.opens.a + t.opens.b + t.queued.a + t.queued.b

/-- The records of a port on the tallied entry (R86). -/
def Tally.records (t : Tally) (p : Port) : Nat := t.opens.get p + t.queued.get p

theorem tally_snaps_get (s : State) (p : Port) (e : EntryIndex) :
    (s.tally e).snaps.get p = countOn Snapshot.entry (s.snaps.get p) e := by cases p <;> rfl

theorem tally_opens_get (s : State) (p : Port) (e : EntryIndex) :
    (s.tally e).opens.get p = countOn OpenRecord.entry (s.recs.get p) e := by cases p <;> rfl

theorem tally_queued_get (s : State) (p : Port) (e : EntryIndex) :
    (s.tally e).queued.get p = countOn CommitRecord.entry (ofPort p s.queue) e := by cases p <;> rfl

theorem countOn_ofPort_cons (p : Port) (r : CommitRecord) (l : List CommitRecord) (e : EntryIndex) :
    countOn CommitRecord.entry (ofPort p (r :: l)) e
      = countOn CommitRecord.entry (ofPort p l) e + if r.port = p ∧ r.entry = e then 1 else 0 := by
  by_cases port : r.port = p <;> by_cases on : r.entry = e <;> simp [countOn, ofPort, port, on]

theorem countOn_ofPort_append (p : Port) (r : CommitRecord) (l : List CommitRecord) (e : EntryIndex) :
    countOn CommitRecord.entry (ofPort p (l ++ [r])) e
      = countOn CommitRecord.entry (ofPort p l) e + if r.port = p ∧ r.entry = e then 1 else 0 := by
  by_cases port : r.port = p <;> by_cases on : r.entry = e <;> simp [countOn, ofPort, List.countP_append, port, on]

theorem queuedCount_eq (s : State) (e : EntryIndex) :
    s.queuedCount e = (s.tally e).queued.a + (s.tally e).queued.b := by
  unfold State.queuedCount State.tally
  generalize s.queue = l
  induction l with
  | nil => rfl
  | cons r l ih =>
    simp only [List.countP_cons, countOn_ofPort_cons, ih]
    cases port : r.port <;> by_cases on : r.entry = e <;> simp [on] <;> omega

theorem userSum_eq (s : State) (e : EntryIndex) : s.userSum e = (s.tally e).sum := by
  have := queuedCount_eq s e
  unfold State.userSum Tally.sum
  rw [this]
  simp only [State.tally, State.snapshotCount, State.openCount, countOn, PerPort.get_a, PerPort.get_b]
  omega

theorem holdsRecord_iff (s : State) (p : Port) (e : EntryIndex) :
    s.holdsRecord p e = true ↔ 0 < (s.tally e).records p := by
  have opens : ((s.recs.get p).any fun r => r.entry == e) = true ↔ 0 < (s.tally e).opens.get p := by
    rw [tally_opens_get, countOn_pos]
    simp
  have queued : (s.queue.any fun r => r.port == p && r.entry == e) = true ↔ 0 < (s.tally e).queued.get p := by
    rw [tally_queued_get, countOn_pos]
    simp [ofPort, and_assoc]
  rw [State.holdsRecord, Bool.or_eq_true, opens, queued, Tally.records]
  omega

theorem holdsRecord_eq_false_iff (s : State) (p : Port) (e : EntryIndex) :
    s.holdsRecord p e = false ↔ (s.tally e).records p = 0 := by
  rw [← Bool.not_eq_true, holdsRecord_iff]
  omega

/-! ## What the updates make of a tally -/

/-- Two states agree in what tallies look at. -/
theorem tally_congr {s t : State} (table : t.table = s.table) (snaps : t.snaps = s.snaps) (recs : t.recs = s.recs)
    (queue : t.queue = s.queue) (claims : t.claims = s.claims) (e : EntryIndex) : t.tally e = s.tally e := by
  simp only [State.tally, State.entry, table, snaps, recs, queue, claims]

/-- A tally after a user has left. -/
def Tally.left (t : Tally) : Tally := { t with entry := t.entry.left, holder := t.entry.holderLeft t.holder }

/-- A tally after the claim has been checked for a port's records (R87). -/
def Tally.checked (t : Tally) (p : Port) : Tally :=
  if t.holder = some p ∧ t.records p = 0 then { t with holder := none } else t

@[simp] theorem tally_left (s : State) (e : EntryIndex) : (s.left e).tally e = (s.tally e).left := by
  simp only [State.tally, Tally.left, left_entry, left_claims]
  rfl

theorem tally_left_ne (s : State) {e f : EntryIndex} (ne : f ≠ e) : (s.left e).tally f = s.tally f := by
  simp only [State.tally, left_entry_ne s ne, left_claims_ne s ne]
  rfl

@[simp] theorem tally_withEntry (s : State) (e : EntryIndex) (x : Entry) :
    (s.withEntry e x).tally e = { s.tally e with entry := x } := by
  simp only [State.tally, withEntry_entry]
  rfl

theorem tally_withEntry_ne (s : State) {e f : EntryIndex} (x : Entry) (ne : f ≠ e) :
    (s.withEntry e x).tally f = s.tally f := by
  simp only [State.tally, withEntry_entry_ne s x ne]
  rfl

@[simp] theorem tally_withClaim (s : State) (e : EntryIndex) (h : Option Port) :
    (s.withClaim e h).tally e = { s.tally e with holder := h } := by
  simp only [State.tally, withClaim_claims]
  rfl

theorem tally_withClaim_ne (s : State) {e f : EntryIndex} (h : Option Port) (ne : f ≠ e) :
    (s.withClaim e h).tally f = s.tally f := by
  simp only [State.tally, withClaim_claims_ne s h ne]
  rfl

@[simp] theorem tally_claimChecked (s : State) (p : Port) (e : EntryIndex) :
    (s.claimChecked p e).tally e = (s.tally e).checked p := by
  have backed := holdsRecord_eq_false_iff s p e
  unfold State.claimChecked Tally.checked
  split
  · next h => rw [tally_withClaim, if_pos ⟨h.1, backed.mp h.2⟩]
  · next h => rw [if_neg fun k => h ⟨k.1, backed.mpr k.2⟩]

theorem tally_claimChecked_ne (s : State) (p : Port) {e f : EntryIndex} (ne : f ≠ e) :
    (s.claimChecked p e).tally f = s.tally f := by
  unfold State.claimChecked
  split
  · exact tally_withClaim_ne s none ne
  · rfl

theorem tally_withSnaps (s : State) (p : Port) (l : List Snapshot) (e : EntryIndex) :
    (s.withSnaps p l).tally e = { s.tally e with snaps := (s.tally e).snaps.set p (countOn Snapshot.entry l e) } := by
  cases p <;> rfl

theorem tally_withRecs (s : State) (p : Port) (l : List OpenRecord) (e : EntryIndex) :
    (s.withRecs p l).tally e = { s.tally e with opens := (s.tally e).opens.set p (countOn OpenRecord.entry l e) } := by
  cases p <;> rfl

theorem tally_withSnaps_same (s : State) (p : Port) {l : List Snapshot} {e : EntryIndex}
    (same : countOn Snapshot.entry l e = countOn Snapshot.entry (s.snaps.get p) e) :
    (s.withSnaps p l).tally e = s.tally e := by
  rw [tally_withSnaps, same, ← tally_snaps_get, PerPort.set_get]

theorem tally_withRecs_same (s : State) (p : Port) {l : List OpenRecord} {e : EntryIndex}
    (same : countOn OpenRecord.entry l e = countOn OpenRecord.entry (s.recs.get p) e) :
    (s.withRecs p l).tally e = s.tally e := by
  rw [tally_withRecs, same, ← tally_opens_get, PerPort.set_get]

/-! ## The tallies that the operations leave -/

/-- A tally without one of a port's snapshots. -/
def Tally.lessSnap (t : Tally) (p : Port) : Tally := { t with snaps := t.snaps.set p (t.snaps.get p - 1) }

/-- A tally without one of a port's OPEN records. -/
def Tally.lessOpen (t : Tally) (p : Port) : Tally := { t with opens := t.opens.set p (t.opens.get p - 1) }

/-- A tally without one of a port's queued records. -/
def Tally.lessQueued (t : Tally) (p : Port) : Tally := { t with queued := t.queued.set p (t.queued.get p - 1) }

/-- A tally with a snapshot more. -/
def Tally.moreSnap (t : Tally) (p : Port) : Tally :=
  { t with snaps := t.snaps.set p (t.snaps.get p + 1), entry := t.entry.joined }

/-- A tally with an OPEN record more, whose port takes an EXCLUSIVE claim. -/
def Tally.moreOpen (t : Tally) (p : Port) (exclusive : Bool) : Tally :=
  { t with
    opens := t.opens.set p (t.opens.get p + 1)
    entry := t.entry.joined
    holder := if exclusive then some p else t.holder }

theorem countOn_of_snapshotOn {s : State} {p : Port} {e : EntryIndex} {x : Snapshot} (on : s.snapshotOn p e = some x) :
    0 < (s.tally e).snaps.get p := by
  rw [tally_snaps_get, countOn_pos]
  exact ⟨x, List.mem_of_find?_eq_some on, by simpa using List.find?_some on⟩

theorem countOn_of_recordOn {s : State} {p : Port} {e : EntryIndex} {r : OpenRecord} (on : s.recordOn p e = some r) :
    0 < (s.tally e).opens.get p := by
  rw [tally_opens_get, countOn_pos]
  exact ⟨r, List.mem_of_find?_eq_some on, by simpa using List.find?_some on⟩

theorem tally_eraseSnap (s : State) (p : Port) (e : EntryIndex) :
    (s.withSnaps p ((s.snaps.get p).eraseP fun x => x.entry == e)).tally e = (s.tally e).lessSnap p := by
  rw [tally_withSnaps, countOn_eraseP, if_pos rfl, ← tally_snaps_get]
  rfl

theorem tally_eraseSnap_ne (s : State) (p : Port) {e f : EntryIndex} (ne : f ≠ e) :
    (s.withSnaps p ((s.snaps.get p).eraseP fun x => x.entry == e)).tally f = s.tally f :=
  tally_withSnaps_same s p (by rw [countOn_eraseP, if_neg ne, Nat.sub_zero])

theorem tally_eraseRec (s : State) (p : Port) (e : EntryIndex) :
    (s.withRecs p ((s.recs.get p).eraseP fun x => x.entry == e)).tally e = (s.tally e).lessOpen p := by
  rw [tally_withRecs, countOn_eraseP, if_pos rfl, ← tally_opens_get]
  rfl

theorem tally_eraseRec_ne (s : State) (p : Port) {e f : EntryIndex} (ne : f ≠ e) :
    (s.withRecs p ((s.recs.get p).eraseP fun x => x.entry == e)).tally f = s.tally f :=
  tally_withRecs_same s p (by rw [countOn_eraseP, if_neg ne, Nat.sub_zero])

/-- Every tally but one entry's is as it was, and that one is `x`. -/
structure OnlyTally (s t : State) (e : EntryIndex) (x : Tally) : Prop where
  here : t.tally e = x
  others : ∀ f, f ≠ e → t.tally f = s.tally f

theorem onlyTally_dropSnapshot {w : Work} {p : Port} {e : EntryIndex} {x : Snapshot}
    (on : w.s.snapshotOn p e = some x) :
    OnlyTally w.s (w.dropSnapshot p e).s e ((w.s.tally e).lessSnap p).left := by
  rw [dropSnapshot_s on]
  constructor
  · rw [tally_left]
    exact congrArg Tally.left (tally_eraseSnap w.s p e)
  · intro f ne
    rw [tally_left_ne _ ne]
    exact tally_eraseSnap_ne w.s p ne

theorem onlyTally_dropRecord {w : Work} {p : Port} {e : EntryIndex} {r : OpenRecord}
    (on : w.s.recordOn p e = some r) :
    OnlyTally w.s (w.dropRecord p e).s e (((w.s.tally e).lessOpen p).checked p).left := by
  rw [dropRecord_s on]
  constructor
  · rw [tally_left, tally_claimChecked, tally_eraseRec]
  · intro f ne
    rw [tally_left_ne _ ne, tally_claimChecked_ne _ p ne, tally_eraseRec_ne w.s p ne]

theorem onlyTally_openSnapshot (w : Work) (p : Port) (h : Held) (e : EntryIndex) (c : Content) :
    OnlyTally w.s (w.openSnapshot p h e c).s e ((w.s.tally e).moreSnap p) := by
  have core : ∀ f, (w.openSnapshot p h e c).s.tally f =
      ((w.s.withSnaps p (w.s.snaps.get p ++ [{ entry := e, state := .filling }])).withEntry e
        (w.s.entry e).joined).tally f := by
    rw [openSnapshot_s]
    exact tally_congr rfl rfl rfl rfl rfl
  constructor
  · rw [core, tally_withEntry, tally_withSnaps, countOn_append_one, if_pos rfl, ← tally_snaps_get]
    rfl
  · intro f ne
    rw [core, tally_withEntry_ne _ _ ne, tally_withSnaps_same]
    rw [countOn_append_one, if_neg (Ne.symm ne), Nat.add_zero]

theorem onlyTally_openRecord (w : Work) (p : Port) (e : EntryIndex) (c : Content) :
    OnlyTally w.s (w.openRecord p e c).s e ((w.s.tally e).moreOpen p (c.claim == .exclusive)) := by
  rw [openRecord_s]
  constructor
  · rw [tally_withClaim, tally_withEntry, tally_withRecs, countOn_append_one, ← tally_opens_get]
    simp only [Tally.moreOpen, beq_iff_eq, freshRecord, if_true]
    rfl
  · intro f ne
    rw [tally_withClaim_ne _ _ ne, tally_withEntry_ne _ _ ne, tally_withRecs_same]
    rw [countOn_append_one, if_neg (fun on => ne on.symm), Nat.add_zero]

theorem onlyTally_withEntry {s : State} {e : EntryIndex} {x : Entry} :
    OnlyTally s (s.withEntry e x) e { s.tally e with entry := x } :=
  ⟨tally_withEntry s e x, fun _ ne => tally_withEntry_ne s x ne⟩

theorem onlyTally_reseat (w : Work) (e : EntryIndex) (x : Entry) :
    OnlyTally w.s (w.reseat e x).s e { w.s.tally e with entry := x, holder := none } := by
  rw [Work.reseat_s]
  constructor
  · rw [tally_withClaim, tally_withEntry]
  · intro f ne
    rw [tally_withClaim_ne _ _ ne, tally_withEntry_ne _ _ ne]

theorem onlyTally_leave (w : Work) (e : EntryIndex) : OnlyTally w.s (w.leave e).s e (w.s.tally e).left := by
  rw [leave_s]
  exact ⟨tally_left w.s e, fun _ ne => tally_left_ne w.s ne⟩

/-- The commit queue replaced. -/
def State.withQueue (s : State) (l : List CommitRecord) : State := { s with queue := l }

/-- A tally with a port's queued record more. -/
def Tally.moreQueued (t : Tally) (p : Port) : Tally := { t with queued := t.queued.set p (t.queued.get p + 1) }

theorem tally_withQueue (s : State) (l : List CommitRecord) (e : EntryIndex) :
    (s.withQueue l).tally e =
      { s.tally e with
        queued := ⟨countOn CommitRecord.entry (ofPort .a l) e, countOn CommitRecord.entry (ofPort .b l) e⟩ } := rfl

theorem tally_appendQueue (s : State) (r : CommitRecord) (f : EntryIndex) :
    (s.withQueue (s.queue ++ [r])).tally f = if f = r.entry then (s.tally f).moreQueued r.port else s.tally f := by
  rw [tally_withQueue, countOn_ofPort_append, countOn_ofPort_append]
  by_cases on : f = r.entry
  · cases port : r.port <;> simp [Tally.moreQueued, State.tally, on]
  · simp [on, Ne.symm on, State.tally]

theorem tally_tailQueue {s : State} {r : CommitRecord} {rest : List CommitRecord} (head : s.queue = r :: rest)
    (f : EntryIndex) :
    (s.withQueue rest).tally f = if f = r.entry then (s.tally f).lessQueued r.port else s.tally f := by
  have queued : (s.tally f).queued =
      ⟨countOn CommitRecord.entry (ofPort .a (r :: rest)) f, countOn CommitRecord.entry (ofPort .b (r :: rest)) f⟩ := by
    rw [← head]
    rfl
  rw [countOn_ofPort_cons, countOn_ofPort_cons] at queued
  rw [tally_withQueue]
  by_cases on : f = r.entry
  · subst on
    cases port : r.port <;> simp_all [Tally.lessQueued]
  · simp only [Ne.symm on, and_false, if_false, Nat.add_zero] at queued
    rw [if_neg on, ← queued]

/-- A record that joins the queue is an OPEN record less and a queued one more. -/
theorem onlyTally_enqueue (w : Work) (p : Port) (e : EntryIndex) (bytes : List (Option Byte)) :
    OnlyTally w.s
      ((w.setRecs p ((w.s.recs.get p).eraseP fun r => r.entry == e)).enqueue { port := p, entry := e, bytes := bytes }).s
      e (((w.s.tally e).lessOpen p).moreQueued p) := by
  have core : ∀ f,
      ((w.setRecs p ((w.s.recs.get p).eraseP fun r => r.entry == e)).enqueue
        { port := p, entry := e, bytes := bytes }).s.tally f =
      ((w.s.withRecs p ((w.s.recs.get p).eraseP fun r => r.entry == e)).withQueue
        (w.s.queue ++ [{ port := p, entry := e, bytes := bytes }])).tally f := by
    intro f
    rw [enqueue_s]
    split
    · next empty =>
      rw [show w.s.queue = [] from empty]
      exact tally_congr rfl rfl rfl rfl rfl f
    · exact tally_congr rfl rfl rfl rfl rfl f
  constructor
  · rw [core]
    exact (tally_appendQueue _ _ e).trans (by rw [if_pos rfl, tally_eraseRec])
  · intro f ne
    rw [core]
    exact (tally_appendQueue _ _ f).trans (by rw [if_neg ne, tally_eraseRec_ne w.s p ne])

/-- A commit that has succeeded frees its queued record, checks the claim, raises the version and takes the user away. -/
theorem onlyTally_commitDone {w : Work} {r : CommitRecord} {rest : List CommitRecord} (head : w.s.queue = r :: rest) :
    OnlyTally w.s w.commitDone.s r.entry
      ({ ((w.s.tally r.entry).lessQueued r.port).checked r.port with entry := (w.s.entry r.entry).raised }).left := by
  have freed : ∀ t f, (State.withWaitingCommit { w.s with queue := rest } t).tally f =
      if f = r.entry then (w.s.tally f).lessQueued r.port else w.s.tally f :=
    fun t f => (tally_congr rfl rfl rfl rfl rfl f).trans (tally_tailQueue head f)
  rw [commitDone_s head]
  constructor
  · rw [tally_left, tally_withEntry, tally_claimChecked, freed, if_pos rfl]
  · intro f ne
    rw [tally_left_ne _ ne, tally_withEntry_ne _ _ ne, tally_claimChecked_ne _ _ ne, freed, if_neg ne]

theorem ofPort_filter (p : Port) (l : List CommitRecord) (f : CommitRecord → Bool) :
    ofPort p (l.filter f) = (ofPort p l).filter f := by
  simp [ofPort, List.filter_filter, Bool.and_comm]

/-- What a poisoning leaves on each entry: nothing on its own. -/
theorem tally_poisonedBy {s : State} {r : CommitRecord} {rest : List CommitRecord} (head : s.queue = r :: rest)
    (n : Nat) (f : EntryIndex) :
    (s.poisonedBy r rest n).tally f =
      if f = r.entry then
        { entry := (s.entry r.entry).poisonedBy { port := r.port, attempts := n }
          holder := none, snaps := ⟨0, 0⟩, opens := ⟨0, 0⟩, queued := ⟨0, 0⟩ }
      else s.tally f := by
  by_cases same : f = r.entry
  · subst same
    have entry : (s.poisonedBy r rest n).entry r.entry = (s.entry r.entry).poisonedBy ⟨r.port, n⟩ :=
      withEntry_entry s r.entry _
    have holder : (s.poisonedBy r rest n).claims[r.entry] = none := withClaim_claims s r.entry none
    rw [if_pos rfl]
    unfold State.tally
    rw [entry, holder]
    simp only [State.poisonedBy, PerPort.filtered, ofPort_filter, countOn_filter, if_true]
  · have entry : (s.poisonedBy r rest n).entry f = s.entry f := withEntry_entry_ne s _ same
    have holder : (s.poisonedBy r rest n).claims[f] = s.claims[f] := withClaim_claims_ne s none same
    have queued := congrArg Tally.queued (tally_tailQueue head f)
    rw [if_neg same] at queued ⊢
    unfold State.tally
    rw [entry, holder]
    simp only [State.poisonedBy, PerPort.filtered, ofPort_filter, countOn_filter, if_neg same]
    exact congrArg (fun q => ({ s.tally f with queued := q } : Tally)) queued

/-- A commit that has failed poisons its entry and leaves nobody on it. -/
theorem onlyTally_commitFailed {w : Work} {r : CommitRecord} {rest : List CommitRecord}
    (head : w.s.queue = r :: rest) (n : Nat) :
    OnlyTally w.s (w.commitFailed n).s r.entry
      { entry := (w.s.entry r.entry).poisonedBy { port := r.port, attempts := n }
        holder := none, snaps := ⟨0, 0⟩, opens := ⟨0, 0⟩, queued := ⟨0, 0⟩ } := by
  have core : ∀ f, (w.commitFailed n).s.tally f = (w.s.poisonedBy r rest n).tally f := by
    rw [commitFailed_s head]
    exact tally_congr rfl rfl rfl rfl rfl
  constructor
  · rw [core, tally_poisonedBy head, if_pos rfl]
  · intro f ne
    rw [core, tally_poisonedBy head, if_neg ne]

end Sys2Proof.Machine
end

section
/-! PROOFS. Properties of tallies: a property of one entry's tally that the moves on a tally keep holds of every entry's in
every state that a step leaves. -/

namespace Sys2Proof.Machine

open Sys2Proof

/-! ## The moves on a tally -/

/-- What the moves on a tally keep. -/
structure TallyKeeps (Q : Tally → Prop) : Prop where
  lessSnap : ∀ t p, Q t → 0 < t.snaps.get p → Q (t.lessSnap p).left
  lessOpen : ∀ t p, Q t → 0 < t.opens.get p → Q ((t.lessOpen p).checked p).left
  moreSnap : ∀ t p c v u, Q t → t.entry = .active c v u → Q (t.moreSnap p)
  moreOpen : ∀ t p c v u, Q t → t.entry = .active c v u → ¬(c.claim = .exclusive ∧ t.holder = some p.other) →
    Q (t.moreOpen p (c.claim == .exclusive))
  reopen : ∀ t p c v u, Q t → t.entry = .active c v u → 0 < t.opens.get p →
    Q (((t.lessOpen p).left).moreOpen p (c.claim == .exclusive))
  enqueue : ∀ t p, Q t → 0 < t.opens.get p → Q ((t.lessOpen p).moreQueued p)
  commitDone : ∀ t p, Q t → 0 < t.queued.get p →
    Q ({ (t.lessQueued p).checked p with entry := t.entry.raised }).left
  poisoned : ∀ t k, Q t → t.entry.users ≠ 0 → 0 < t.sum →
    Q { entry := t.entry.poisonedBy k, holder := none, snaps := ⟨0, 0⟩, opens := ⟨0, 0⟩, queued := ⟨0, 0⟩ }
  reseat : ∀ t x, Q t → t.entry.users = 0 → t.entry.isDraining = false → x.users = 0 → x.isDraining = false →
    Q { t with entry := x, holder := none }
  drain : ∀ t c v u r, Q t → t.entry.content? = some c → t.entry.users = u →
    (t.entry.isDraining = true ∨ u ≠ 0) → Q { t with entry := .draining c v u r }
  exact : ∀ t, Q t → t.entry.users = t.sum
  empty : Q { entry := .empty, holder := none, snaps := ⟨0, 0⟩, opens := ⟨0, 0⟩, queued := ⟨0, 0⟩ }

/-- A property of every entry's tally. -/
def EveryTally (Q : Tally → Prop) (s : State) : Prop := ∀ e, Q (s.tally e)

theorem OnlyTally.every {Q : Tally → Prop} {s t : State} {e : EntryIndex} {x : Tally} (only : OnlyTally s t e x)
    (held : EveryTally Q s) (here : Q x) : EveryTally Q t := by
  intro f
  by_cases same : f = e
  · rw [same, only.here]
    exact here
  · rw [only.others f same]
    exact held f

theorem everyTally_congr {Q : Tally → Prop} {s t : State} (held : EveryTally Q s) (table : t.table = s.table)
    (snaps : t.snaps = s.snaps) (recs : t.recs = s.recs) (queue : t.queue = s.queue) (claims : t.claims = s.claims) :
    EveryTally Q t := fun e => by
  rw [tally_congr table snaps recs queue claims]
  exact held e

/-- The entry of the head of the queue has a user. -/
theorem sum_head_pos {s : State} {r : CommitRecord} {rest : List CommitRecord} (head : s.queue = r :: rest) :
    0 < (s.tally r.entry).sum := by
  have queued := tally_queued_get s r.port r.entry
  rw [head, countOn_ofPort_cons, if_pos ⟨rfl, rfl⟩] at queued
  unfold Tally.sum
  cases port : r.port <;> rw [port] at queued <;> simp only [PerPort.get_a, PerPort.get_b] at queued <;> omega

theorem everyTally_grantNext {Q : Tally → Prop} {w : Work} (held : EveryTally Q w.s) : EveryTally Q w.grantNext.s := by
  unfold Work.grantNext
  split
  · dsimp only
    split <;> exact everyTally_congr held rfl rfl rfl rfl rfl
  · exact held

theorem everyTally_countTick {Q : Tally → Prop} {s : State} (held : EveryTally Q s) : EveryTally Q s.countTick := by
  intro e
  have same : s.countTick.tally e = s.tally e := by
    have snaps : ∀ l : List Snapshot, countOn Snapshot.entry (l.map Snapshot.tick) e = countOn Snapshot.entry l e := by
      refine fun l => countOn_map l e fun x => ?_
      unfold Snapshot.tick
      split <;> rfl
    have recs : ∀ l : List OpenRecord, countOn OpenRecord.entry (l.map fun r => { r with timer := r.timer.tick }) e =
        countOn OpenRecord.entry l e := fun l => countOn_map l e fun r => rfl
    unfold State.tally State.countTick
    simp only [snaps, recs]
    rfl
  rw [same]
  exact held e

section Kept
variable {Q : Tally → Prop} (keeps : TallyKeeps Q)
include keeps

variable {w : Work}

theorem TallyKeeps.dropSnapshot (held : EveryTally Q w.s) (p : Port) (e : EntryIndex) :
    EveryTally Q (w.dropSnapshot p e).s := by
  cases on : w.s.snapshotOn p e with
  | none => rwa [Work.dropSnapshot_none on]
  | some x => exact (onlyTally_dropSnapshot on).every held (keeps.lessSnap _ p (held e) (countOn_of_snapshotOn on))

theorem TallyKeeps.dropRecord (held : EveryTally Q w.s) (p : Port) (e : EntryIndex) :
    EveryTally Q (w.dropRecord p e).s := by
  cases on : w.s.recordOn p e with
  | none => rwa [Work.dropRecord_none on]
  | some r => exact (onlyTally_dropRecord on).every held (keeps.lessOpen _ p (held e) (countOn_of_recordOn on))

theorem TallyKeeps.openSnapshot (held : EveryTally Q w.s) (p : Port) (h : Held) {e : EntryIndex} {c : Content}
    {v : BitVec 16} {u : Nat} (active : w.s.entry e = .active c v u) : EveryTally Q (w.openSnapshot p h e c).s :=
  (onlyTally_openSnapshot w p h e c).every held (keeps.moreSnap _ p c v u (held e) active)

theorem TallyKeeps.reopenRecord (held : EveryTally Q w.s) {p : Port} {e : EntryIndex} {c : Content} {v : BitVec 16}
    {u : Nat} {r : OpenRecord} (active : w.s.entry e = .active c v u) (on : w.s.recordOn p e = some r) :
    EveryTally Q (((w.setRecs p ((w.s.recs.get p).eraseP fun r => r.entry == e)).leave e).openRecord p e c).s := by
  have opened := onlyTally_openRecord ((w.setRecs p ((w.s.recs.get p).eraseP fun r => r.entry == e)).leave e) p e c
  have left := onlyTally_leave (w.setRecs p ((w.s.recs.get p).eraseP fun r => r.entry == e)) e
  have whole : OnlyTally w.s
      (((w.setRecs p ((w.s.recs.get p).eraseP fun r => r.entry == e)).leave e).openRecord p e c).s e
      ((((w.s.tally e).lessOpen p).left).moreOpen p (c.claim == .exclusive)) := by
    constructor
    · rw [opened.here, left.here]
      exact congrArg (fun t => (Tally.left t).moreOpen p _) (tally_eraseRec w.s p e)
    · intro f ne
      rw [opened.others f ne, left.others f ne]
      exact tally_eraseRec_ne w.s p ne
  exact whole.every held (keeps.reopen _ p c v u (held e) active (countOn_of_recordOn on))

theorem TallyKeeps.afterCommitDone (held : EveryTally Q w.s) : EveryTally Q w.commitDone.s := by
  cases head : w.s.queue with
  | nil => rwa [commitDone_nil head]
  | cons r rest =>
    refine (onlyTally_commitDone head).every held (keeps.commitDone _ r.port (held r.entry) ?_)
    rw [tally_queued_get, head, countOn_ofPort_cons, if_pos ⟨rfl, rfl⟩]
    omega

theorem TallyKeeps.afterCommitFailed (held : EveryTally Q w.s) (n : Nat) : EveryTally Q (w.commitFailed n).s := by
  cases head : w.s.queue with
  | nil => rwa [commitFailed_nil head]
  | cons r rest =>
    have pos := sum_head_pos head
    have exact := keeps.exact _ (held r.entry)
    exact (onlyTally_commitFailed head n).every held
      (keeps.poisoned _ ⟨r.port, n⟩ (held r.entry) (by omega) pos)

/-! ## Table edits -/

theorem TallyKeeps.reseatFree (held : EveryTally Q w.s) {e : EntryIndex} {x : Entry} (users : (w.s.entry e).users = 0)
    (live : (w.s.entry e).isDraining = false) (none : x.users = 0) (lives : x.isDraining = false) :
    EveryTally Q (w.reseat e x).s :=
  (onlyTally_reseat w e x).every held (keeps.reseat _ x (held e) users live none lives)

theorem TallyKeeps.drainEntry (held : EveryTally Q w.s) {e : EntryIndex} {c : Content} {v : BitVec 16} {u : Nat}
    (r : Replacement) (content : (w.s.entry e).content? = some c) (users : (w.s.entry e).users = u)
    (used : (w.s.entry e).isDraining = true ∨ u ≠ 0) : EveryTally Q (w.setEntry e (.draining c v u r)).s :=
  onlyTally_withEntry.every held (keeps.drain _ c v u r (held e) content users used)

theorem TallyKeeps.editEntry (held : EveryTally Q w.s) (e : EntryIndex) (c : Content) :
    EveryTally Q (w.editEntry e c).1.s := by
  unfold Work.editEntry
  split
  · split
    · exact held
    · unfold Work.writeContent
      split
      · next h => exact keeps.reseatFree held (by rw [h]; rfl) (by rw [h]; rfl) rfl rfl
      · next old v u h =>
        split
        · next zero => exact keeps.reseatFree held (by rw [h]; exact zero) (by rw [h]; rfl) rfl rfl
        · next used =>
          exact keeps.drainEntry held (.content c) (by rw [h]; rfl) (by rw [h]; rfl) (.inr used)
      · next old v u _ h =>
        exact keeps.drainEntry held (.content c) (by rw [h]; rfl) (by rw [h]; rfl) (.inl (by rw [h]; rfl))
      · next h => exact keeps.reseatFree held (by rw [h]; rfl) (by rw [h]; rfl) rfl rfl
  · exact held

theorem TallyKeeps.deleteContent (held : EveryTally Q w.s) (e : EntryIndex) :
    EveryTally Q (w.deleteContent e).1.s := by
  unfold Work.deleteContent
  split
  · exact held
  · next c v u h =>
    split
    · next zero => exact keeps.reseatFree held (by rw [h]; exact zero) (by rw [h]; rfl) rfl rfl
    · next used => exact keeps.drainEntry held .delete (by rw [h]; rfl) (by rw [h]; rfl) (.inr used)
  · next c v u _ h =>
    exact keeps.drainEntry held .delete (by rw [h]; rfl) (by rw [h]; rfl) (.inl (by rw [h]; rfl))
  · next h => exact keeps.reseatFree held (by rw [h]; rfl) (by rw [h]; rfl) rfl rfl

theorem TallyKeeps.clearPoison (held : EveryTally Q w.s) (e : EntryIndex) : EveryTally Q (w.clearPoison e).1.s := by
  unfold Work.clearPoison
  split
  · exact held
  · exact held
  · exact held
  · next h => exact keeps.reseatFree held (by rw [h]; rfl) (by rw [h]; rfl) rfl rfl
  · next r _ h =>
    exact keeps.reseatFree held (x := r.installed) (by rw [h]; rfl) (by rw [h]; rfl) (by cases r <;> rfl)
      (by cases r <;> rfl)

/-! ## Every step -/

theorem everyTally_deviceReset (s : State) : EveryTally Q s.deviceReset := by
  intro e
  have empty := keeps.empty
  have blank : s.deviceReset.tally e =
      { entry := .empty, holder := none, snaps := ⟨0, 0⟩, opens := ⟨0, 0⟩, queued := ⟨0, 0⟩ } := by
    unfold State.tally
    congr 1
    · simp [State.deviceReset, State.entry, State.reset]
    · simp [State.deviceReset, State.reset]
  rwa [blank]

/-- Every command keeps what the moves on a tally keep. -/
theorem TallyKeeps.step : StepKeeps (EveryTally Q) fun _ => EveryTally Q where
  choose _ _ held := everyTally_congr held rfl rfl rfl rfl rfl
  vacate _ _ _ held _ := everyTally_congr held rfl rfl rfl rfl rfl
  occupy _ _ _ held _ := everyTally_congr held rfl rfl rfl rfl rfl
  plain _ _ _ _ held := everyTally_congr held rfl rfl rfl rfl rfl
  dropSnapshot _ p e held := keeps.dropSnapshot held p e
  dropSnapshotFree _ p e held := keeps.dropSnapshot held p e
  dropRecord _ p e held := keeps.dropRecord held p e
  openSnapshot _ p h _ _ _ _ held active _ _ := keeps.openSnapshot held p h active
  reopenSnapshot w p h e c v u x held active _ := by
    obtain ⟨u', active'⟩ := dropSnapshot_active p active
    exact keeps.openSnapshot (keeps.dropSnapshot held p e) p h active'
  retouchSnaps w p f held kept := fun e => by
    have same := tally_withSnaps_same w.s p (countOn_map (w.s.snaps.get p) e kept)
    exact same ▸ held e
  openRecord w p e c v u held active _ unclaimed _ :=
    (onlyTally_openRecord w p e c).every held (keeps.moreOpen _ p c v u (held e) active unclaimed)
  reopenRecord _ _ _ _ _ _ _ held active on := keeps.reopenRecord held active on
  retouchRecs w p f held kept := fun e => by
    have same := tally_withRecs_same w.s p (countOn_map (w.s.recs.get p) e kept)
    exact same ▸ held e
  enqueue w p e bytes held on :=
    (onlyTally_enqueue w p e bytes).every held
      (keeps.enqueue _ p (held e) (by rw [tally_opens_get]; exact (countOn_pos _ e).mpr on))
  core _ _ same held := everyTally_congr held same.table same.snaps same.recs same.queue same.claims
  arrive _ _ held _ := everyTally_congr held rfl rfl rfl rfl rfl
  notes _ _ _ held _ := everyTally_congr held rfl rfl rfl rfl rfl
  retry _ _ held := everyTally_congr held rfl rfl rfl rfl rfl
  retouchFlight _ _ _ held _ _ := everyTally_congr held rfl rfl rfl rfl rfl
  endFlight _ _ held _ _ := everyTally_congr held rfl rfl rfl rfl rfl
  answerRunning _ _ _ _ held _ _ := everyTally_congr held rfl rfl rfl rfl rfl
  commitDone v w f held _ _ ended :=
    keeps.afterCommitDone (by rw [ended]; exact everyTally_congr held rfl rfl rfl rfl rfl)
  commitFailed v w f held _ _ ended :=
    keeps.afterCommitFailed (by rw [ended]; exact everyTally_congr held rfl rfl rfl rfl rfl) _
  grantNext _ held := everyTally_grantNext held
  portReset s p held := by
    unfold Work.orphanTransfer
    split
    · split <;> exact everyTally_congr held rfl rfl rfl rfl rfl
    · exact everyTally_congr held rfl rfl rfl rfl rfl
  portResetInReset _ _ held _ := everyTally_congr held rfl rfl rfl rfl rfl
  portRelease _ _ held _ := everyTally_congr held rfl rfl rfl rfl rfl
  flushAccess _ _ held := everyTally_congr held rfl rfl rfl rfl rfl
  editEntry _ e c held := keeps.editEntry held e c
  deleteContent _ e held := keeps.deleteContent held e
  clearPoison _ e held := keeps.clearPoison held e
  deviceReset := everyTally_deviceReset keeps
  deviceRelease _ held _ := everyTally_congr held rfl rfl rfl rfl rfl
  countTick _ held := everyTally_countTick held

end Kept

/-! ## User counts (R14) -/

/-- R14 of one tally. -/
def Tally.exact (t : Tally) : Prop := t.entry.users = t.sum

theorem usersExact_iff (s : State) : s.usersExact ↔ EveryTally Tally.exact s := by
  simp only [State.usersExact, EveryTally, Tally.exact, userSum_eq]
  rfl

section Sums
variable {t : Tally} {p : Port}

theorem sum_lessSnap (pos : 0 < t.snaps.get p) : (t.lessSnap p).sum + 1 = t.sum := by
  cases p <;> simp [Tally.lessSnap, Tally.sum] at pos ⊢ <;> omega

theorem sum_lessOpen (pos : 0 < t.opens.get p) : (t.lessOpen p).sum + 1 = t.sum := by
  cases p <;> simp [Tally.lessOpen, Tally.sum] at pos ⊢ <;> omega

theorem sum_lessQueued (pos : 0 < t.queued.get p) : (t.lessQueued p).sum + 1 = t.sum := by
  cases p <;> simp [Tally.lessQueued, Tally.sum] at pos ⊢ <;> omega

theorem sum_moreSnap : (t.moreSnap p).sum = t.sum + 1 := by
  cases p <;> simp [Tally.moreSnap, Tally.sum] <;> omega

theorem sum_moreOpen (exclusive : Bool) : (t.moreOpen p exclusive).sum = t.sum + 1 := by
  cases p <;> simp [Tally.moreOpen, Tally.sum] <;> omega

theorem sum_moreQueued : (t.moreQueued p).sum = t.sum + 1 := by
  cases p <;> simp [Tally.moreQueued, Tally.sum] <;> omega

@[simp] theorem sum_left : t.left.sum = t.sum := rfl

@[simp] theorem sum_checked : (t.checked p).sum = t.sum := by
  unfold Tally.checked
  split <;> rfl

@[simp] theorem checked_entry : (t.checked p).entry = t.entry := by
  unfold Tally.checked
  split <;> rfl

@[simp] theorem users_raised (x : Entry) : x.raised.users = x.users := by cases x <;> rfl

@[simp] theorem users_installed (r : Replacement) : r.installed.users = 0 := by cases r <;> rfl

/-- A leaving takes one user from the count, of an entry that has one. -/
theorem users_left {x : Entry} (pos : 0 < x.users) : x.left.users + 1 = x.users := by
  cases x with
  | active c v u => exact Nat.sub_add_cancel pos
  | draining c v u r =>
    have pos : 0 < u := pos
    dsimp only [Entry.left]
    split
    · rw [users_installed]
      exact (Nat.le_antisymm pos ‹_›)
    · exact Nat.sub_add_cancel pos
  | _ => exact absurd pos (Nat.lt_irrefl 0)

/-- A tally with one user too many is exact once that user has left. -/
theorem exact_left {n : Nat} (owes : t.entry.users = n) (one : t.sum + 1 = n) : t.left.exact := by
  have left : t.left.entry.users + 1 = t.entry.users := users_left (x := t.entry) (by omega)
  rw [Tally.exact, sum_left]
  omega

end Sums

/-- The moves on a tally keep R14. -/
theorem exact_kept : TallyKeeps Tally.exact where
  lessSnap t p exact pos := exact_left (t := t.lessSnap p) exact (sum_lessSnap pos)
  lessOpen t p exact pos :=
    exact_left (t := (t.lessOpen p).checked p) (n := t.sum) ((congrArg Entry.users checked_entry).trans exact)
      (by rw [sum_checked]; exact sum_lessOpen pos)
  moreSnap t p c v u exact active := by
    have exact : t.entry.users = t.sum := exact
    rw [Tally.exact, sum_moreSnap, ← exact]
    simp [Tally.moreSnap, active, Entry.joined, Entry.users]
  moreOpen t p c v u exact active _ := by
    have exact : t.entry.users = t.sum := exact
    rw [Tally.exact, sum_moreOpen, ← exact]
    simp [Tally.moreOpen, active, Entry.joined, Entry.users]
  reopen t p c v u exact active pos := by
    have exact : t.entry.users = t.sum := exact
    have less := sum_lessOpen pos
    rw [Tally.exact, sum_moreOpen, sum_left, less, ← exact]
    have used : u = t.sum := by rw [← exact, active]; rfl
    simp [Tally.moreOpen, Tally.left, Tally.lessOpen, active, Entry.left, Entry.joined, Entry.users]
    omega
  enqueue t p exact pos := by
    rw [Tally.exact, sum_moreQueued, sum_lessOpen pos]
    exact exact
  commitDone t p exact pos := by
    have less := sum_lessQueued pos
    rw [← sum_checked (p := p)] at less
    exact exact_left (t := { (t.lessQueued p).checked p with entry := t.entry.raised }) (n := t.sum)
      ((users_raised t.entry).trans exact) less
  poisoned t k _ used _ := by
    cases entry : t.entry with
    | empty => exact absurd (by rw [entry]; rfl) used
    | _ => rfl
  reseat t x exact users _ none _ := by
    have exact : t.entry.users = t.sum := exact
    exact none.trans (users.symm.trans exact)
  drain t c v u r exact _ users _ := users.symm.trans exact
  exact _ exact := exact
  empty := rfl

/-- Every step keeps R14. -/
theorem usersExact_kept : StepKeeps (EveryTally Tally.exact) fun _ => EveryTally Tally.exact := exact_kept.step

end Sys2Proof.Machine
end

section
/-! PROOFS. Users, pools and claims: R12, R14 and R86 as a property of tallies, the bounds of the pools (R42, R69), and the
statement O59. -/

namespace Sys2Proof.Machine

open Sys2Proof

/-- A port that is not the one is the other. -/
theorem eq_other_of_ne {p q : Port} (ne : q ≠ p) : q = p.other := by
  cases p with
  | a =>
    cases q with
    | a => exact absurd rfl ne
    | b => rfl
  | b =>
    cases q with
    | a => rfl
    | b => exact absurd rfl ne

/-! ## Claims of one tally (R86) -/

/-- R86 of one tally. -/
def Tally.claimSound (t : Tally) : Prop :=
  if t.entry.isExclusive = true then
    match t.holder with
    | some p => 0 < t.records p ∧ t.records p.other = 0
    | none => t.records .a = 0 ∧ t.records .b = 0
  else t.holder = none

theorem claimsSound_iff (s : State) : s.claimsSound ↔ EveryTally Tally.claimSound s := by
  refine forall_congr' fun e => ?_
  have backed := fun p => holdsRecord_iff s p e
  have bare := fun p => holdsRecord_eq_false_iff s p e
  unfold Tally.claimSound
  change (if (s.entry e).isExclusive = true then (match s.claims[e] with | some _ => _ | none => _) else _) ↔
    (if (s.entry e).isExclusive = true then (match s.claims[e] with | some _ => _ | none => _) else s.claims[e] = none)
  split
  · cases s.claims[e] with
    | none => exact and_congr (bare .a) (bare .b)
    | some p => exact and_congr (backed p) (bare p.other)
  · exact Iff.rfl

section Claims
variable {t u : Tally} {p : Port}

theorem claimSound_exclusive (exclusive : t.entry.isExclusive = true) :
    t.claimSound ↔
      match t.holder with
      | some p => 0 < t.records p ∧ t.records p.other = 0
      | none => t.records .a = 0 ∧ t.records .b = 0 := by
  unfold Tally.claimSound
  rw [if_pos exclusive]

theorem claimSound_shared (shared : ¬t.entry.isExclusive = true) : t.claimSound ↔ t.holder = none := by
  unfold Tally.claimSound
  rw [if_neg shared]

/-- R86 looks at the claim of the content, the holder and the records. -/
theorem Tally.claimSound.congr (sound : t.claimSound) (exclusive : u.entry.isExclusive = t.entry.isExclusive)
    (holder : u.holder = t.holder) (records : ∀ q, u.records q = t.records q) : u.claimSound := by
  unfold Tally.claimSound at sound ⊢
  simpa only [exclusive, holder, records] using sound

/-- Without records and holder there is nothing to hold. -/
theorem claimSound_unheld (holder : t.holder = none) (records : ∀ q, t.records q = 0) : t.claimSound := by
  unfold Tally.claimSound
  split
  · rw [holder]
    exact ⟨records .a, records .b⟩
  · exact holder

/-- A port with a record on an EXCLUSIVE entry holds its claim, and the other port has none. -/
theorem Tally.claimSound.holder (sound : t.claimSound) (exclusive : t.entry.isExclusive = true)
    (pos : 0 < t.records p) : t.holder = some p ∧ t.records p.other = 0 := by
  rw [claimSound_exclusive exclusive] at sound
  cases h : t.holder with
  | none =>
    rw [h] at sound
    obtain ⟨a, b⟩ := sound
    cases p <;> omega
  | some q =>
    rw [h] at sound
    obtain ⟨-, other⟩ := sound
    have same : q = p := by
      by_contra ne
      rw [eq_other_of_ne (Ne.symm ne), other] at pos
      exact Nat.lt_irrefl 0 pos
    exact ⟨by rw [same], by rw [← same]; exact other⟩

/-- A port that has a record less, with the claim checked for it. -/
theorem Tally.claimSound.checked (sound : t.claimSound) (entry : u.entry = t.entry) (holder : u.holder = t.holder)
    (pos : 0 < t.records p) (other : u.records p.other = t.records p.other) : (u.checked p).claimSound := by
  by_cases exclusive : t.entry.isExclusive = true
  · obtain ⟨held, none⟩ := sound.holder exclusive pos
    unfold Tally.checked
    split
    · next bare =>
      refine claimSound_unheld rfl fun q => ?_
      have zero : ∀ q, u.records q = 0 := by
        intro q
        by_cases same : q = p
        · exact same ▸ bare.2
        · exact eq_other_of_ne same ▸ other.trans none
      exact zero q
    · next backed =>
      rw [claimSound_exclusive (by rw [entry]; exact exclusive), holder, held]
      have : u.records p ≠ 0 := fun zero => backed ⟨holder.trans held, zero⟩
      exact ⟨Nat.pos_of_ne_zero this, other.trans none⟩
  · have unheld : u.holder = none := holder.trans ((claimSound_shared exclusive).mp sound)
    have same : u.checked p = u := by
      unfold Tally.checked
      rw [if_neg (by simp [unheld])]
    rw [same, claimSound_shared (by rw [entry]; exact exclusive)]
    exact unheld

theorem records_le_sum (q : Port) : t.records q ≤ t.sum := by
  cases q <;> simp only [Tally.records, Tally.sum, PerPort.get_a, PerPort.get_b] <;> omega

/-- A leaving keeps R86: an install finds no record left. -/
theorem Tally.claimSound.left (sound : t.claimSound) (owes : t.sum + 1 = t.entry.users) : t.left.claimSound := by
  cases entry : t.entry with
  | draining c v n r =>
    rw [entry] at owes
    have owes : t.sum + 1 = n := owes
    by_cases last : n ≤ 1
    · refine claimSound_unheld ?_ fun q => ?_
      · simp [Tally.left, entry, Entry.holderLeft, last]
      · have := records_le_sum (t := t) q
        change t.records q = 0
        omega
    · refine sound.congr ?_ ?_ fun q => rfl
      · simp [Tally.left, entry, Entry.left, last, Entry.isExclusive, Entry.content?]
      · simp [Tally.left, entry, Entry.holderLeft, last]
  | _ =>
    exact sound.congr (by simp [Tally.left, entry, Entry.left, Entry.isExclusive, Entry.content?])
      (by simp [Tally.left, entry, Entry.holderLeft]) fun q => rfl

/-- An opened record takes the claim of an EXCLUSIVE entry, which the other port has no record on. -/
theorem claimSound_moreOpen {c : Content} (exclusive : t.entry.isExclusive = (c.claim == .exclusive))
    (joined : t.entry.joined.isExclusive = t.entry.isExclusive) (other : c.claim = .exclusive → t.records p.other = 0)
    (unheld : c.claim ≠ .exclusive → t.holder = none) : (t.moreOpen p (c.claim == .exclusive)).claimSound := by
  by_cases excl : c.claim = .exclusive
  · have records : ∀ q, (t.moreOpen p (c.claim == .exclusive)).records q
        = t.records q + if q = p then 1 else 0 := by
      intro q
      cases p <;> cases q <;> simp [Tally.moreOpen, Tally.records] <;> omega
    have holder : (t.moreOpen p (c.claim == .exclusive)).holder = some p := by simp [Tally.moreOpen, excl]
    rw [claimSound_exclusive (by simpa [Tally.moreOpen, joined, exclusive] using excl), holder]
    refine ⟨by rw [records, if_pos rfl]; omega, ?_⟩
    rw [records, other excl, if_neg (Port.other_ne p)]
  · rw [claimSound_shared (by simpa [Tally.moreOpen, joined, exclusive] using excl)]
    simp [Tally.moreOpen, excl, unheld excl]

end Claims

/-! ## R12, R14 and R86 together -/

/-- R14, R12 and R86 of one tally. -/
structure Tally.sound (t : Tally) : Prop where
  exact : t.exact
  used : t.entry.isDraining = true → 1 ≤ t.entry.users
  claim : t.claimSound

theorem draining_left {x : Entry} (draining : x.left.isDraining = true) : 1 ≤ x.left.users := by
  cases x with
  | draining c v u r =>
    dsimp only [Entry.left] at draining ⊢
    split at draining
    · cases r <;> contradiction
    · next many => rw [if_neg many]; exact Nat.le_sub_of_add_le (by omega)
  | _ => contradiction

theorem isExclusive_active (c : Content) (v : BitVec 16) (u : Nat) :
    (Entry.active c v u).isExclusive = (c.claim == .exclusive) := rfl

theorem isExclusive_raised (x : Entry) : x.raised.isExclusive = x.isExclusive := by cases x <;> rfl

theorem isExclusive_joined (x : Entry) : x.joined.isExclusive = x.isExclusive := by cases x <;> rfl

theorem records_lessOpen_other (t : Tally) (p : Port) : (t.lessOpen p).records p.other = t.records p.other := by
  cases p <;> rfl

theorem records_lessQueued_other (t : Tally) (p : Port) : (t.lessQueued p).records p.other = t.records p.other := by
  cases p <;> rfl

/-- The moves on a tally keep R12, R14 and R86. -/
theorem sound_kept : TallyKeeps Tally.sound where
  lessSnap t p sound pos :=
    { exact := exact_kept.lessSnap t p sound.exact pos
      used := draining_left
      claim :=
        Tally.claimSound.left (t := t.lessSnap p) (sound.claim.congr rfl rfl fun _ => rfl)
          ((sum_lessSnap pos).trans sound.exact.symm) }
  lessOpen t p sound pos :=
    { exact := exact_kept.lessOpen t p sound.exact pos
      used := draining_left
      claim := by
        have checked := sound.claim.checked (u := t.lessOpen p) rfl rfl (Nat.lt_add_right _ pos)
          (records_lessOpen_other t p)
        refine checked.left ?_
        rw [sum_checked, sum_lessOpen pos, checked_entry]
        exact sound.exact.symm }
  moreSnap t p c v u sound active :=
    { exact := exact_kept.moreSnap t p c v u sound.exact active
      used := fun draining => by simp [Tally.moreSnap, active, Entry.joined, Entry.isDraining] at draining
      claim := sound.claim.congr (isExclusive_joined t.entry) rfl fun _ => rfl }
  moreOpen t p c v u sound active unclaimed :=
    { exact := exact_kept.moreOpen t p c v u sound.exact active unclaimed
      used := fun draining => by simp [Tally.moreOpen, active, Entry.joined, Entry.isDraining] at draining
      claim := by
        have exclusive : t.entry.isExclusive = (c.claim == .exclusive) := by rw [active]; rfl
        refine claimSound_moreOpen exclusive (isExclusive_joined t.entry) (fun excl => ?_) fun shared => ?_
        · refine Nat.eq_zero_of_not_pos fun pos => unclaimed ⟨excl, ?_⟩
          exact (sound.claim.holder (by simp [exclusive, excl]) pos).1
        · exact (claimSound_shared (by simpa [exclusive] using shared)).mp sound.claim }
  reopen t p c v u sound active pos :=
    { exact := exact_kept.reopen t p c v u sound.exact active pos
      used := fun draining => by
        simp [Tally.moreOpen, Tally.left, Tally.lessOpen, active, Entry.left, Entry.joined, Entry.isDraining] at draining
      claim := by
        have exclusive : t.entry.isExclusive = (c.claim == .exclusive) := by rw [active]; rfl
        have left : (t.lessOpen p).left.entry.isExclusive = t.entry.isExclusive := by
          simp [Tally.left, Tally.lessOpen, active, Entry.left, isExclusive_active]
        refine claimSound_moreOpen (left.trans exclusive) (isExclusive_joined _) (fun excl => ?_) fun shared => ?_
        · have holder := sound.claim.holder (p := p) (by simp [exclusive, excl]) (Nat.lt_add_right _ pos)
          exact (records_lessOpen_other t p).trans holder.2
        · have unheld := (claimSound_shared (by simpa [exclusive] using shared)).mp sound.claim
          simp [Tally.left, Tally.lessOpen, active, Entry.holderLeft, unheld] }
  enqueue t p sound pos :=
    { exact := exact_kept.enqueue t p sound.exact pos
      used := sound.used
      claim := sound.claim.congr rfl rfl fun q => by
        cases p <;> cases q <;> simp [Tally.records, Tally.lessOpen, Tally.moreQueued] at pos ⊢ <;> omega }
  commitDone t p sound pos :=
    { exact := exact_kept.commitDone t p sound.exact pos
      used := draining_left
      claim := by
        have checked := sound.claim.checked (u := t.lessQueued p) rfl rfl (Nat.lt_add_left _ pos)
          (records_lessQueued_other t p)
        refine Tally.claimSound.left (t := { (t.lessQueued p).checked p with entry := t.entry.raised })
          (checked.congr ?_ rfl fun _ => rfl) ?_
        · rw [checked_entry]
          exact isExclusive_raised t.entry
        · refine Eq.trans ?_ ((users_raised t.entry).trans sound.exact).symm
          have less := sum_lessQueued pos
          rw [← sum_checked (p := p)] at less
          exact less }
  poisoned t k sound used pos :=
    { exact := exact_kept.poisoned t k sound.exact used pos
      used := fun draining => by
        cases entry : t.entry <;> rw [entry] at draining <;> contradiction
      claim := claimSound_unheld rfl fun q => by cases q <;> rfl }
  reseat t x sound users live none lives :=
    { exact := exact_kept.reseat t x sound.exact users live none lives
      used := fun draining => by simp [lives] at draining
      claim := claimSound_unheld rfl fun q => by
        have bound := records_le_sum (t := t) q
        have zero : t.sum = 0 := sound.exact.symm.trans users
        exact Nat.le_zero.mp (zero ▸ bound) }
  drain t c v u r sound content users used :=
    { exact := exact_kept.drain t c v u r sound.exact content users used
      used := fun _ => by
        rcases used with draining | pos
        · exact users ▸ sound.used draining
        · exact Nat.pos_of_ne_zero pos
      claim := sound.claim.congr (by simp [Entry.isExclusive, content]; rfl) rfl fun _ => rfl }
  exact _ sound := sound.exact
  empty := ⟨rfl, fun draining => by contradiction, rfl⟩

/-! ## Pools (R42, R69) -/

/-- The pools of one port: at most 4 snapshots and at most 4 records, at most one of each on an entry. -/
structure PoolBounded (s : State) (p : Port) : Prop where
  slots : (s.snaps.get p).length ≤ 4
  records : (s.recs.get p).length + (ofPort p s.queue).length ≤ 4
  snaps : ∀ e, countOn Snapshot.entry (s.snaps.get p) e ≤ 1
  opens : ∀ e, countOn OpenRecord.entry (s.recs.get p) e ≤ 1

/-- The pools of both ports. -/
def PoolsBounded (s : State) : Prop := ∀ p, PoolBounded s p

theorem recordsInUse_eq (s : State) (p : Port) :
    s.recordsInUse p = (s.recs.get p).length + (ofPort p s.queue).length := by
  unfold State.recordsInUse ofPort
  rw [List.countP_eq_length_filter]

theorem poolsBounded_iff (s : State) : s.poolsBounded ↔ PoolsBounded s := by
  refine forall_congr' fun p => ?_
  rw [recordsInUse_eq]
  constructor
  · rintro ⟨slots, records, each⟩
    exact ⟨slots, records, fun e => (each e).1, fun e => (each e).2⟩
  · rintro ⟨slots, records, snaps, opens⟩
    exact ⟨slots, records, fun e => ⟨snaps e, opens e⟩⟩

theorem PoolsBounded.of_same {s t : State} (bounded : PoolsBounded s) (snaps : t.snaps = s.snaps)
    (recs : t.recs = s.recs) (queue : t.queue = s.queue) : PoolsBounded t := fun p => by
  obtain ⟨slots, records, each, opens⟩ := bounded p
  exact ⟨by rw [snaps]; exact slots, by rw [recs, queue]; exact records, by rw [snaps]; exact each,
    by rw [recs]; exact opens⟩

/-- One port's snapshots replaced by as few. -/
theorem PoolsBounded.withSnaps {s t : State} (bounded : PoolsBounded s) (p : Port) {l : List Snapshot}
    (snaps : t.snaps = s.snaps.set p l) (recs : t.recs = s.recs) (queue : t.queue = s.queue) (slots : l.length ≤ 4)
    (each : ∀ e, countOn Snapshot.entry l e ≤ 1) : PoolsBounded t := fun q => by
  obtain ⟨slots', records, each', opens⟩ := bounded q
  refine ⟨?_, by rw [recs, queue]; exact records, ?_, by rw [recs]; exact opens⟩
  · rw [snaps]
    by_cases same : q = p
    · subst same; rw [PerPort.get_set_same]; exact slots
    · rw [PerPort.get_set_ne _ _ _ _ same]; exact slots'
  · rw [snaps]
    by_cases same : q = p
    · subst same; rw [PerPort.get_set_same]; exact each
    · rw [PerPort.get_set_ne _ _ _ _ same]; exact each'

/-- One port's OPEN records replaced, within its records in use. -/
theorem PoolsBounded.withRecs {s t : State} (bounded : PoolsBounded s) (p : Port) {l : List OpenRecord}
    (snaps : t.snaps = s.snaps) (recs : t.recs = s.recs.set p l)
    (records : l.length + (ofPort p t.queue).length ≤ 4)
    (others : ∀ q, q ≠ p → (ofPort q t.queue).length ≤ (ofPort q s.queue).length)
    (each : ∀ e, countOn OpenRecord.entry l e ≤ 1) : PoolsBounded t := fun q => by
  obtain ⟨slots, records', each', opens⟩ := bounded q
  refine ⟨by rw [snaps]; exact slots, ?_, by rw [snaps]; exact each', ?_⟩
  · rw [recs]
    by_cases same : q = p
    · subst same; rw [PerPort.get_set_same]; exact records
    · rw [PerPort.get_set_ne _ _ _ _ same]; exact le_trans (Nat.add_le_add_left (others q same) _) records'
  · rw [recs]
    by_cases same : q = p
    · subst same; rw [PerPort.get_set_same]; exact each
    · rw [PerPort.get_set_ne _ _ _ _ same]; exact opens

theorem countOn_eraseP_le {α : Type} {key : α → EntryIndex} (l : List α) (e f : EntryIndex) :
    countOn key (l.eraseP fun x => key x == e) f ≤ countOn key l f := by
  rw [countOn_eraseP]
  exact Nat.sub_le _ _

theorem countOn_eq_zero_of_find {α : Type} {key : α → EntryIndex} {l : List α} {e : EntryIndex}
    (none : (l.find? fun x => key x == e) = none) : countOn key l e = 0 := by
  refine Nat.eq_zero_of_not_pos fun pos => ?_
  obtain ⟨x, hx, on⟩ := (countOn_pos l e).mp pos
  simp only [List.find?_eq_none, beq_iff_eq] at none
  exact none x hx on

/-- A list with at most one on each entry, and one more where it had none. -/
theorem countOn_append_le {α : Type} {key : α → EntryIndex} {l : List α} {x : α}
    (each : ∀ e, countOn key l e ≤ 1) (fresh : countOn key l (key x) = 0) (e : EntryIndex) :
    countOn key (l ++ [x]) e ≤ 1 := by
  rw [countOn_append_one]
  split
  · next same => rw [← same, fresh]
  · exact each e

section Pools
variable {w : Work}

theorem PoolsBounded.dropSnapshot (bounded : PoolsBounded w.s) (p : Port) (e : EntryIndex) :
    PoolsBounded (w.dropSnapshot p e).s := by
  cases on : w.s.snapshotOn p e with
  | none => rwa [Work.dropSnapshot_none on]
  | some x =>
    rw [dropSnapshot_s on]
    exact bounded.withSnaps p rfl rfl rfl (le_trans (List.length_eraseP_le) (bounded p).slots)
      fun f => le_trans (countOn_eraseP_le _ e f) ((bounded p).snaps f)

/-- An OPEN record that is erased leaves room. -/
theorem PoolsBounded.eraseRec {s t : State} (bounded : PoolsBounded s) (p : Port) (e : EntryIndex)
    (snaps : t.snaps = s.snaps) (recs : t.recs = s.recs.set p ((s.recs.get p).eraseP fun r => r.entry == e))
    (queue : t.queue = s.queue) : PoolsBounded t := by
  refine bounded.withRecs p snaps recs ?_ (fun q _ => by rw [queue])
    fun f => le_trans (countOn_eraseP_le _ e f) ((bounded p).opens f)
  rw [queue]
  exact le_trans (Nat.add_le_add_right (List.length_eraseP_le) _) (bounded p).records

theorem PoolsBounded.dropRecord (bounded : PoolsBounded w.s) (p : Port) (e : EntryIndex) :
    PoolsBounded (w.dropRecord p e).s := by
  cases on : w.s.recordOn p e with
  | none => rwa [Work.dropRecord_none on]
  | some r =>
    rw [dropRecord_s on]
    exact bounded.eraseRec p e (claimChecked_snaps _ p e) (claimChecked_recs _ p e) (claimChecked_queue _ p e)

theorem PoolsBounded.openSnapshot (bounded : PoolsBounded w.s) {p : Port} (h : Held) {e : EntryIndex} (c : Content)
    (none : countOn Snapshot.entry (w.s.snaps.get p) e = 0) (room : (w.s.snaps.get p).length < 4) :
    PoolsBounded (w.openSnapshot p h e c).s := by
  rw [openSnapshot_s]
  refine bounded.withSnaps p (l := w.s.snaps.get p ++ [{ entry := e, state := .filling }]) rfl rfl rfl ?_
    (countOn_append_le (bounded p).snaps none)
  rw [List.length_append, List.length_singleton]
  exact room

theorem PoolsBounded.reopenSnapshot (bounded : PoolsBounded w.s) {p : Port} (h : Held) {e : EntryIndex} (c : Content)
    {x : Snapshot} (on : w.s.snapshotOn p e = some x) :
    PoolsBounded ((w.dropSnapshot p e).openSnapshot p h e c).s := by
  have snaps : (w.dropSnapshot p e).s.snaps.get p = (w.s.snaps.get p).eraseP fun x => x.entry == e := by
    rw [dropSnapshot_s on]
    exact PerPort.get_set_same _ _ _
  have one := countOn_eraseP (key := Snapshot.entry) (w.s.snaps.get p) e e
  have bound := (bounded p).snaps e
  refine (bounded.dropSnapshot p e).openSnapshot h c ?_ ?_
  · rw [snaps, one, if_pos rfl]
    omega
  · have erased := List.length_eraseP_add_one (List.mem_of_find?_eq_some on) (List.find?_some on)
    have slots := (bounded p).slots
    rw [snaps]
    omega

theorem openRecord_pools (w : Work) (p : Port) (e : EntryIndex) (c : Content) :
    (w.openRecord p e c).s.snaps = w.s.snaps ∧ (w.openRecord p e c).s.queue = w.s.queue
      ∧ (w.openRecord p e c).s.recs = w.s.recs.set p (w.s.recs.get p ++ [freshRecord e c]) := by
  rw [openRecord_s]
  exact ⟨rfl, rfl, rfl⟩

theorem PoolsBounded.openRecord (bounded : PoolsBounded w.s) {p : Port} {e : EntryIndex} (c : Content)
    (none : countOn OpenRecord.entry (w.s.recs.get p) e = 0)
    (room : (w.s.recs.get p).length + (ofPort p w.s.queue).length < 4) : PoolsBounded (w.openRecord p e c).s := by
  obtain ⟨snaps, queue, recs⟩ := openRecord_pools w p e c
  refine bounded.withRecs p snaps recs ?_ (fun q _ => by rw [queue])
    (countOn_append_le (bounded p).opens none)
  rw [queue, List.length_append, List.length_singleton]
  omega

theorem PoolsBounded.reopenRecord (bounded : PoolsBounded w.s) {p : Port} {e : EntryIndex} (c : Content)
    {r : OpenRecord} (on : w.s.recordOn p e = some r) :
    PoolsBounded (((w.setRecs p ((w.s.recs.get p).eraseP fun r => r.entry == e)).leave e).openRecord p e c).s := by
  have erased : PoolsBounded ((w.setRecs p ((w.s.recs.get p).eraseP fun r => r.entry == e)).leave e).s := by
    rw [leave_s]
    exact bounded.eraseRec p e rfl rfl rfl
  have recs : ((w.setRecs p ((w.s.recs.get p).eraseP fun r => r.entry == e)).leave e).s.recs.get p =
      (w.s.recs.get p).eraseP fun r => r.entry == e := by
    rw [leave_s]
    exact PerPort.get_set_same _ _ _
  have queue : ((w.setRecs p ((w.s.recs.get p).eraseP fun r => r.entry == e)).leave e).s.queue = w.s.queue := by
    rw [leave_s]
    rfl
  have one := countOn_eraseP (key := OpenRecord.entry) (w.s.recs.get p) e e
  have bound := (bounded p).opens e
  refine erased.openRecord c ?_ ?_
  · rw [recs, one, if_pos rfl]
    omega
  · have shorter := List.length_eraseP_add_one (List.mem_of_find?_eq_some on) (List.find?_some on)
    have records := (bounded p).records
    rw [recs, queue]
    omega

theorem PoolsBounded.enqueue (bounded : PoolsBounded w.s) {p : Port} {e : EntryIndex} (bytes : List (Option Byte))
    (on : ∃ r ∈ w.s.recs.get p, r.entry = e) :
    PoolsBounded ((w.setRecs p ((w.s.recs.get p).eraseP fun r => r.entry == e)).enqueue
      { port := p, entry := e, bytes := bytes }).s := by
  obtain ⟨r, mem, here⟩ := on
  have queue : ∀ q,
      ofPort q ((w.setRecs p ((w.s.recs.get p).eraseP fun r => r.entry == e)).enqueue
        { port := p, entry := e, bytes := bytes }).s.queue =
        ofPort q (w.s.queue ++ [{ port := p, entry := e, bytes := bytes }]) := by
    intro q
    rw [enqueue_s]
    split
    · next empty => rw [show w.s.queue = [] from empty]; rfl
    · rfl
  have grown : ∀ q, (ofPort q (w.s.queue ++ [{ port := p, entry := e, bytes := bytes }])).length
      = (ofPort q w.s.queue).length + if p = q then 1 else 0 := by
    intro q
    by_cases same : p = q <;> simp [ofPort, same]
  refine bounded.withRecs p (l := (w.s.recs.get p).eraseP fun r => r.entry == e) ?_ ?_ ?_ ?_
    fun f => le_trans (countOn_eraseP_le _ e f) ((bounded p).opens f)
  · rw [enqueue_s]; split <;> rfl
  · rw [enqueue_s]; split <;> rfl
  · have shorter := List.length_eraseP_add_one (p := fun r : OpenRecord => r.entry == e) mem (by simpa using here)
    have records := (bounded p).records
    rw [queue, grown, if_pos rfl]
    omega
  · intro q ne
    rw [queue, grown, if_neg (Ne.symm ne), Nat.add_zero]

/-- Fewer records in the queue leave room. -/
theorem PoolsBounded.fewer {s t : State} (bounded : PoolsBounded s)
    (snaps : ∀ p, (t.snaps.get p).Sublist (s.snaps.get p)) (recs : ∀ p, (t.recs.get p).Sublist (s.recs.get p))
    (queue : t.queue.Sublist s.queue) : PoolsBounded t := fun p => by
  obtain ⟨slots, records, each, opens⟩ := bounded p
  have shorter := (queue.filter fun r => r.port == p).length_le
  have recs' := (recs p).length_le
  refine ⟨le_trans (snaps p).length_le slots, ?_, fun e => le_trans (snaps p).countP_le (each e),
    fun e => le_trans (recs p).countP_le (opens e)⟩
  unfold ofPort at records ⊢
  omega

theorem PoolsBounded.commitDone (bounded : PoolsBounded w.s) : PoolsBounded w.commitDone.s := by
  cases head : w.s.queue with
  | nil => rwa [commitDone_nil head]
  | cons r rest =>
    rw [commitDone_s head]
    refine bounded.fewer (fun p => ?_) (fun p => ?_) ?_
    · rw [left_snaps]
      exact (congrArg (PerPort.get · p) (claimChecked_snaps _ _ _)).symm ▸ List.Sublist.refl (w.s.snaps.get p)
    · rw [left_recs]
      exact (congrArg (PerPort.get · p) (claimChecked_recs _ _ _)).symm ▸ List.Sublist.refl (w.s.recs.get p)
    · rw [head, left_queue]
      exact (claimChecked_queue _ _ _).symm ▸ List.sublist_cons_self r rest

theorem PoolsBounded.commitFailed (bounded : PoolsBounded w.s) (n : Nat) : PoolsBounded (w.commitFailed n).s := by
  cases head : w.s.queue with
  | nil => rwa [commitFailed_nil head]
  | cons r rest =>
    rw [commitFailed_s head]
    refine bounded.fewer (fun p => ?_) (fun p => ?_) ?_
    · cases p <;> exact List.filter_sublist
    · cases p <;> exact List.filter_sublist
    · rw [head]
      exact List.Sublist.trans List.filter_sublist (List.sublist_cons_self r rest)

theorem reseat_pools (w : Work) (e : EntryIndex) (x : Entry) (bounded : PoolsBounded w.s) :
    PoolsBounded (w.reseat e x).s := by
  rw [Work.reseat_s]
  exact bounded.of_same rfl rfl rfl

end Pools

/-- Every command keeps the bounds of the pools. -/
theorem poolsBounded_kept : StepKeeps PoolsBounded fun _ => PoolsBounded where
  choose _ _ bounded := bounded.of_same rfl rfl rfl
  vacate _ _ _ bounded _ := bounded.of_same rfl rfl rfl
  occupy _ _ _ bounded _ := bounded.of_same rfl rfl rfl
  plain _ _ _ _ bounded := bounded.of_same rfl rfl rfl
  dropSnapshot _ p e bounded := bounded.dropSnapshot p e
  dropSnapshotFree _ p e bounded := bounded.dropSnapshot p e
  dropRecord _ p e bounded := bounded.dropRecord p e
  openSnapshot _ _ h _ c _ _ bounded _ none room := bounded.openSnapshot h c (countOn_eq_zero_of_find none) room
  reopenSnapshot _ _ h _ c _ _ _ bounded _ on := bounded.reopenSnapshot h c on
  retouchSnaps w p f bounded kept :=
    bounded.withSnaps p rfl rfl rfl (le_of_eq_of_le (List.length_map _) (bounded p).slots)
      fun e => le_of_eq_of_le (countOn_map _ e kept) ((bounded p).snaps e)
  openRecord w p e c _ _ bounded _ none _ room :=
    bounded.openRecord c (countOn_eq_zero_of_find none) (by rw [← recordsInUse_eq]; exact room)
  reopenRecord _ _ _ c _ _ _ bounded _ on := bounded.reopenRecord c on
  retouchRecs w p f bounded kept :=
    bounded.withRecs p rfl rfl (by rw [List.length_map]; exact (bounded p).records) (fun _ _ => le_refl _)
      fun e => le_of_eq_of_le (countOn_map _ e kept) ((bounded p).opens e)
  enqueue _ _ _ bytes bounded on := bounded.enqueue bytes on
  core _ _ same bounded := bounded.of_same same.snaps same.recs same.queue
  arrive _ _ bounded _ := bounded.of_same rfl rfl rfl
  notes _ _ _ bounded _ := bounded.of_same rfl rfl rfl
  retry _ _ bounded := bounded.of_same rfl rfl rfl
  retouchFlight _ _ _ bounded _ _ := bounded.of_same rfl rfl rfl
  endFlight _ _ bounded _ _ := bounded.of_same rfl rfl rfl
  answerRunning _ _ _ _ bounded _ _ := bounded.of_same rfl rfl rfl
  commitDone v w f bounded _ _ ended := by
    refine PoolsBounded.commitDone ?_
    rw [ended]
    exact bounded.of_same rfl rfl rfl
  commitFailed v w f bounded _ _ ended := by
    refine PoolsBounded.commitFailed ?_ _
    rw [ended]
    exact bounded.of_same rfl rfl rfl
  grantNext w bounded := by
    unfold Work.grantNext
    split
    · dsimp only
      split <;> exact bounded.of_same rfl rfl rfl
    · exact bounded
  portReset s p bounded := by
    unfold Work.orphanTransfer
    split
    · split <;> exact bounded.of_same rfl rfl rfl
    · exact bounded.of_same rfl rfl rfl
  portResetInReset _ _ bounded _ := bounded.of_same rfl rfl rfl
  portRelease _ _ bounded _ := bounded.of_same rfl rfl rfl
  flushAccess _ _ bounded := bounded.of_same rfl rfl rfl
  editEntry w e c bounded := by
    unfold Work.editEntry Work.writeContent
    repeat' split
    all_goals first | exact bounded | exact reseat_pools w e _ bounded | exact bounded.of_same rfl rfl rfl
  deleteContent w e bounded := by
    unfold Work.deleteContent
    repeat' split
    all_goals first | exact bounded | exact reseat_pools w e _ bounded | exact bounded.of_same rfl rfl rfl
  clearPoison w e bounded := by
    unfold Work.clearPoison
    repeat' split
    all_goals first | exact bounded | exact reseat_pools w e _ bounded
  deviceReset s := fun p => by
    cases p <;> exact ⟨Nat.zero_le _, Nat.zero_le _, fun _ => Nat.zero_le _, fun _ => Nat.zero_le _⟩
  deviceRelease _ bounded _ := bounded.of_same rfl rfl rfl
  countTick s bounded := fun p => by
    obtain ⟨slots, records, each, opens⟩ := bounded p
    have entry : ∀ x : Snapshot, x.tick.entry = x.entry := fun x => by
      unfold Snapshot.tick
      split <;> rfl
    cases p <;>
      exact ⟨le_of_eq_of_le (List.length_map _) slots,
        le_of_eq_of_le (congrArg (· + _) (List.length_map _)) records,
        fun e => le_of_eq_of_le (countOn_map _ e entry) (each e),
        fun e => le_of_eq_of_le (countOn_map _ e fun _ => rfl) (opens e)⟩

end Sys2Proof.Machine

namespace Sys2Proof.Proofs

open Sys2Proof Sys2Proof.Machine

/-- Settles O59. User counts, drains and claims are a property of each entry's tally, which every move keeps; the bounds of
the pools are kept beside it. -/
theorem stepKeepsUsersPoolsAndClaims : Obligations.StepKeepsUsersPoolsAndClaims := by
  unfold Obligations.StepKeepsUsersPoolsAndClaims
  intro s t exact used pools claims next
  have sound : EveryTally Tally.sound s := fun e =>
    ⟨(usersExact_iff s).mp exact e, used e, (claimsSound_iff s).mp claims e⟩
  have after := sound_kept.step.step sound next
  exact ⟨(usersExact_iff t).mpr fun e => (after e).exact, fun e => (after e).used,
    (poolsBounded_iff t).mpr (poolsBounded_kept.step ((poolsBounded_iff s).mp pools) next),
    (claimsSound_iff t).mpr fun e => (after e).claim⟩

end Sys2Proof.Proofs
end

section
/-! PROOFS. Ports and the commit engine: ports, reset lines and requests stay matched (R100, R117, R130, R133, R137), the
engine works on the head of the queue with the burst R81 writes out, and the statement O60. -/

namespace Sys2Proof.Machine

open Sys2Proof

/-! ## Ports, reset lines and requests -/

/-- The invariant of one port. -/
structure PortMatched (s : State) (p : Port) : Prop where
  line : (s.ports.get p).resetLow = true ↔ (s.ports.get p).state = .inReset
  quiet : s.inReset = true → (s.ports.get p).state = .idle ∨ (s.ports.get p).state = .inReset
  asks : ∀ t, s.mem.waiting.get p = some t →
    t.purpose.requester = .port p ∧ ∃ h, (s.ports.get p).state = .held h ∧ h.cause = .memory

/-- The invariant of both ports. -/
def PortsMatched (s : State) : Prop := ∀ p, PortMatched s p

theorem portsMatched_iff (s : State) : s.portsMatched ↔ PortsMatched s :=
  forall_congr' fun _ => ⟨fun ⟨line, quiet, asks⟩ => ⟨line, quiet, asks⟩, fun ⟨line, quiet, asks⟩ => ⟨line, quiet, asks⟩⟩

/-- A port whose access is being classified: matched, IDLE, without a request, outside a device reset. -/
structure PortFree (p : Port) (s : State) : Prop where
  matched : PortsMatched s
  idle : (s.ports.get p).state = .idle
  unasked : s.mem.waiting.get p = none
  awake : s.inReset = false

/-- Nothing of a port changes but that its request may go. -/
theorem PortsMatched.of_same {s t : State} (matched : PortsMatched s) (ports : t.ports = s.ports)
    (inReset : t.inReset = s.inReset)
    (waiting : ∀ p x, t.mem.waiting.get p = some x → s.mem.waiting.get p = some x) : PortsMatched t := fun p => by
  obtain ⟨line, quiet, asks⟩ := matched p
  exact ⟨by rw [ports]; exact line, by rw [ports, inReset]; exact quiet,
    fun x hx => by rw [ports]; exact asks x (waiting p x hx)⟩

theorem PortFree.of_same {s t : State} {p : Port} (free : PortFree p s) (ports : t.ports = s.ports)
    (inReset : t.inReset = s.inReset)
    (waiting : ∀ p x, t.mem.waiting.get p = some x → s.mem.waiting.get p = some x) : PortFree p t where
  matched := free.matched.of_same ports inReset waiting
  idle := by rw [ports]; exact free.idle
  unasked := Option.eq_none_iff_forall_ne_some.mpr fun x hx => by
    have := waiting p x hx
    rw [free.unasked] at this
    contradiction
  awake := inReset.trans free.awake

/-- One port and its request replaced. -/
theorem PortsMatched.update {s t : State} (matched : PortsMatched s) (p : Port) {x : HostPort}
    {w : Option Transfer} (ports : t.ports = s.ports.set p x) (inReset : t.inReset = s.inReset)
    (waiting : t.mem.waiting = s.mem.waiting.set p w) (line : x.resetLow = true ↔ x.state = .inReset)
    (quiet : s.inReset = true → x.state = .idle ∨ x.state = .inReset)
    (asks : ∀ t, w = some t → t.purpose.requester = .port p ∧ ∃ h, x.state = .held h ∧ h.cause = .memory) :
    PortsMatched t := fun q => by
  by_cases same : q = p
  · subst same
    refine ⟨?_, ?_, ?_⟩
    · rw [ports, PerPort.get_set_same]; exact line
    · rw [ports, PerPort.get_set_same, inReset]; exact quiet
    · rw [ports, waiting, PerPort.get_set_same, PerPort.get_set_same]; exact asks
  · obtain ⟨line', quiet', asks'⟩ := matched q
    refine ⟨?_, ?_, ?_⟩
    · rw [ports, PerPort.get_set_ne _ _ _ _ same]; exact line'
    · rw [ports, PerPort.get_set_ne _ _ _ _ same, inReset]; exact quiet'
    · rw [ports, waiting, PerPort.get_set_ne _ _ _ _ same, PerPort.get_set_ne _ _ _ _ same]; exact asks'

/-- A port's state replaced by one that its reset line allows, with a request that fits it. -/
theorem PortsMatched.setState {s t : State} (matched : PortsMatched s) (p : Port) {x : PortState}
    {w : Option Transfer} (ports : t.ports = s.ports.set p { s.ports.get p with state := x })
    (inReset : t.inReset = s.inReset) (waiting : t.mem.waiting = s.mem.waiting.set p w)
    (line : x = .inReset ↔ (s.ports.get p).state = .inReset)
    (quiet : s.inReset = true → x = .idle ∨ x = .inReset)
    (asks : ∀ t, w = some t → t.purpose.requester = .port p ∧ ∃ h, x = .held h ∧ h.cause = .memory) :
    PortsMatched t :=
  matched.update p ports inReset waiting ((matched p).line.trans line.symm) quiet asks

theorem portSettles_ne_inReset {x : PortState} (settles : PortSettles x) : x ≠ .inReset := by
  rintro rfl
  exact settles

/-- A request waits only for a HELD access. -/
theorem PortsMatched.unasked {s : State} (matched : PortsMatched s) {p : Port}
    (unheld : ∀ h, (s.ports.get p).state ≠ .held h) : s.mem.waiting.get p = none :=
  Option.eq_none_iff_forall_ne_some.mpr fun t ht => by
    obtain ⟨-, h, held, -⟩ := (matched p).asks t ht
    exact unheld h held

/-- Outside a device reset stands every port that is neither IDLE nor IN_RESET. -/
theorem PortsMatched.awake {s : State} (matched : PortsMatched s) {p : Port} (busy : (s.ports.get p).state ≠ .idle)
    (out : (s.ports.get p).state ≠ .inReset) : s.inReset = false := by
  rw [← Bool.not_eq_true]
  intro during
  rcases (matched p).quiet during with h | h
  · exact busy h
  · exact out h

section Free
variable {w : Work} {p : Port}

theorem PortFree.occupy (free : PortFree p w.s) {x : PortState} (settles : PortSettles x) :
    PortsMatched (w.setPortState p x).s := by
  refine free.matched.setState p (w := none) rfl rfl ?_ ?_ (fun during => ?_) (nofun)
  · exact (PerPort.set_get w.s.mem.waiting p).symm.trans (by rw [free.unasked])
  · rw [free.idle]
    exact ⟨fun h => absurd h (portSettles_ne_inReset settles), nofun⟩
  · rw [free.awake] at during
    contradiction

/-- The free port waits for a transfer of its own. -/
theorem PortFree.ask {s : State} (free : PortFree p w.s) {h : Held} {t : Transfer}
    (ports : s.ports = w.s.ports.set p { w.s.ports.get p with state := .held h }) (inReset : s.inReset = w.s.inReset)
    (waiting : s.mem.waiting = w.s.mem.waiting.set p (some t)) (own : t.purpose.requester = .port p)
    (cause : h.cause = .memory) : PortsMatched s := by
  refine free.matched.setState p ports inReset waiting ?_ (fun during => ?_) ?_
  · rw [free.idle]
    exact ⟨nofun, nofun⟩
  · rw [free.awake] at during
    contradiction
  · intro x hx
    cases hx
    exact ⟨own, h, rfl, cause⟩

theorem fillWithdrawn_le {s : State} {q : Port} {e : EntryIndex} {x : Transfer}
    (h : s.fillWithdrawn q e = some x) : s.mem.waiting.get q = some x := by
  unfold State.fillWithdrawn at h
  split at h
  · exact h
  · contradiction

theorem fillPoisoned_le {s : State} {q : Port} {e : EntryIndex} {x : Transfer}
    (h : s.fillPoisoned q e = some x) : s.mem.waiting.get q = some x := by
  unfold State.fillPoisoned at h
  split at h
  · exact fillWithdrawn_le h
  · exact h

/-- A snapshot that leaves changes no port, and at most withdraws a request. -/
theorem dropSnapshot_asks (w : Work) (q : Port) (e : EntryIndex) :
    (w.dropSnapshot q e).s.ports = w.s.ports ∧ (w.dropSnapshot q e).s.inReset = w.s.inReset
      ∧ ∀ p x, (w.dropSnapshot q e).s.mem.waiting.get p = some x → w.s.mem.waiting.get p = some x := by
  cases on : w.s.snapshotOn q e with
  | none => rw [Work.dropSnapshot_none on]; exact ⟨rfl, rfl, fun _ _ h => h⟩
  | some y =>
    rw [dropSnapshot_s on]
    refine ⟨rfl, rfl, fun p x h => ?_⟩
    by_cases same : p = q
    · subst same
      exact fillWithdrawn_le ((PerPort.get_set_same _ _ _).symm.trans h)
    · exact (PerPort.get_set_ne _ _ _ _ same).symm.trans h

theorem dropRecord_asks (w : Work) (q : Port) (e : EntryIndex) :
    (w.dropRecord q e).s.ports = w.s.ports ∧ (w.dropRecord q e).s.inReset = w.s.inReset
      ∧ (w.dropRecord q e).s.mem = w.s.mem := by
  cases on : w.s.recordOn q e with
  | none => rw [Work.dropRecord_none on]; exact ⟨rfl, rfl, rfl⟩
  | some y =>
    rw [dropRecord_s on]
    exact ⟨claimChecked_ports _ q e, claimChecked_inReset _ q e, claimChecked_mem _ q e⟩

theorem commitDone_asks (w : Work) :
    w.commitDone.s.ports = w.s.ports ∧ w.commitDone.s.inReset = w.s.inReset
      ∧ w.commitDone.s.mem.waiting = w.s.mem.waiting := by
  cases head : w.s.queue with
  | nil => rw [commitDone_nil head]; exact ⟨rfl, rfl, rfl⟩
  | cons r rest =>
    rw [commitDone_s head]
    refine ⟨claimChecked_ports _ _ _, claimChecked_inReset _ _ _, ?_⟩
    rw [left_mem]
    change (State.claimChecked _ _ _).mem.waiting = _
    rw [claimChecked_mem]
    rfl

theorem commitFailed_asks (w : Work) (n : Nat) :
    (w.commitFailed n).s.ports = w.s.ports ∧ (w.commitFailed n).s.inReset = w.s.inReset
      ∧ ∀ p x, (w.commitFailed n).s.mem.waiting.get p = some x → w.s.mem.waiting.get p = some x := by
  cases head : w.s.queue with
  | nil => rw [commitFailed_nil head]; exact ⟨rfl, rfl, fun _ _ h => h⟩
  | cons r rest =>
    rw [commitFailed_s head]
    refine ⟨rfl, rfl, fun p x h => ?_⟩
    cases p <;> exact fillPoisoned_le h

end Free

theorem next_request {m : MemoryPort} {r : Requester} {t : Transfer} (next : m.next = some (r, t)) :
    m.request r = some t := by
  unfold MemoryPort.next at next
  obtain ⟨q, -, found⟩ := List.exists_of_findSome?_eq_some next
  cases asked : m.request q with
  | none => rw [asked] at found; contradiction
  | some u => rw [asked] at found; cases found; exact asked

theorem grantNext_cases (w : Work) :
    w.grantNext = w ∨ ∃ r t, w.s.mem.inFlight = none ∧ w.s.mem.next = some (r, t)
      ∧ w.grantNext =
          match r with
          | .port p =>
            (w.setMem
              { w.s.mem.clear r with
                inFlight := some (t.granted w.s.mem.retryLimit), lastGranted := r }).setPortState p
                  (w.s.ports.get p).state.afterGrant
          | .commit =>
            w.setMem
              { w.s.mem.clear r with inFlight := some (t.granted w.s.mem.retryLimit), lastGranted := r } := by
  unfold Work.grantNext
  split
  · next r t idle next => exact .inr ⟨r, t, idle, next, by cases r <;> rfl⟩
  · exact .inl rfl

theorem PortsMatched.grantNext {w : Work} (matched : PortsMatched w.s) : PortsMatched w.grantNext.s := by
  rcases grantNext_cases w with k | ⟨r, t, -, next, k⟩ <;> rw [k]
  · exact matched
  · cases r with
    | commit => exact matched.of_same rfl rfl fun _ _ h => h
    | port p =>
      obtain ⟨-, h, held, -⟩ := (matched p).asks t (next_request next)
      refine matched.setState p (w := none) rfl rfl rfl ?_ (fun during => ?_) nofun
      · rw [held]
        exact ⟨nofun, nofun⟩
      · rw [matched.awake (p := p) (by simp [held]) (by simp [held])] at during
        contradiction

/-- What a sampling of strobes makes of a state keeps what the invariant asks of it. -/
theorem afterRelease_matched (sample : StrobeSample) (x : PortState) :
    (x.afterRelease sample = .inReset ↔ x = .inReset) ∧ (x = .idle → x.afterRelease sample = .idle)
      ∧ ∀ h, x = .held h → ∃ g, x.afterRelease sample = .held g ∧ g.cause = h.cause := by
  cases x with
  | answered a ans =>
    refine ⟨?_, nofun, nofun⟩
    dsimp only [PortState.afterRelease]
    split <;> exact ⟨nofun, nofun⟩
  | held h =>
    refine ⟨⟨nofun, nofun⟩, nofun, ?_⟩
    rintro g ⟨⟩
    exact ⟨_, rfl, rfl⟩
  | idle => exact ⟨⟨id, id⟩, id, nofun⟩
  | inTransfer r => exact ⟨⟨nofun, nofun⟩, nofun, nofun⟩
  | inReset => exact ⟨⟨id, id⟩, id, nofun⟩

theorem PortsMatched.notes {w : Work} (matched : PortsMatched w.s) (p : Port) {x : HostPort}
    (notes : PortNotes (w.s.ports.get p) x) : PortsMatched (w.setPort p x).s := by
  obtain ⟨line, quiet, asks⟩ := matched p
  have kept : (x.state = .inReset ↔ (w.s.ports.get p).state = .inReset)
      ∧ ((w.s.ports.get p).state = .idle → x.state = .idle)
      ∧ ∀ h, (w.s.ports.get p).state = .held h → ∃ g, x.state = .held g ∧ g.cause = h.cause := by
    rcases notes.state with same | ⟨sample, after⟩
    · rw [same]
      exact ⟨Iff.rfl, id, fun h held => ⟨h, held, rfl⟩⟩
    · rw [after]
      exact afterRelease_matched sample _
  obtain ⟨reset, idle, held⟩ := kept
  refine matched.update p (w := w.s.mem.waiting.get p) rfl rfl (PerPort.set_get _ _).symm ?_ (fun during => ?_) ?_
  · rw [notes.resetLow, reset]
    exact line
  · exact (quiet during).imp idle reset.mpr
  · intro t ht
    obtain ⟨own, h, state, cause⟩ := asks t ht
    obtain ⟨g, after, same⟩ := held h state
    exact ⟨own, g, after, same.trans cause⟩

theorem PortsMatched.flushAccess {w : Work} (matched : PortsMatched w.s) (p : Port) :
    PortsMatched (w.flushAccess p).s := by
  refine matched.setState p (w := none) rfl rfl rfl ?_ (fun during => ?_) nofun
  · cases state : (w.s.ports.get p).state with
    | held h => dsimp only [PortState.flushed, answeredState]; split <;> exact ⟨nofun, nofun⟩
    | inTransfer r => exact ⟨nofun, nofun⟩
    | _ => exact Iff.rfl
  · rcases (matched p).quiet during with h | h <;> rw [h]
    · exact .inl rfl
    · exact .inr rfl

theorem orphanTransfer_eq (w : Work) (p : Port) :
    w.orphanTransfer p =
      w.setInFlight (w.s.mem.inFlight.map fun f => if f.ofPort p = true then { f with orphan := true } else f) := by
  have same : ∀ f, w.s.mem.inFlight = f → w.setInFlight f = w := by rintro f rfl; rfl
  unfold Work.orphanTransfer
  split
  · next f flying =>
    split
    · next own => rw [flying, Option.map_some, if_pos own]
    · next other => rw [flying, Option.map_some, if_neg other, same _ flying]
  · next landed => rw [landed, Option.map_none, same _ landed]

/-- `t` is `s` but for the table and the claims. -/
def OnlyTable (s t : State) : Prop := { s with table := t.table, claims := t.claims } = t

theorem reseat_onlyTable (w : Work) (e : EntryIndex) (x : Entry) : OnlyTable w.s (w.reseat e x).s := by
  rw [Work.reseat_s]
  rfl

theorem writeContent_onlyTable (w : Work) (e : EntryIndex) (c : Content) : OnlyTable w.s (w.writeContent e c).1.s := by
  unfold Work.writeContent
  cases w.s.entry e with
  | empty => exact reseat_onlyTable w e _
  | active old v u =>
    dsimp only
    split
    · exact reseat_onlyTable w e _
    · rfl
  | draining old v u r => rfl
  | poisoned old v r f => exact reseat_onlyTable w e _

theorem editEntry_onlyTable (w : Work) (e : EntryIndex) (c : Content) : OnlyTable w.s (w.editEntry e c).1.s := by
  unfold Work.editEntry
  split
  · split
    · rfl
    · exact writeContent_onlyTable w e c
  · rfl

theorem deleteContent_onlyTable (w : Work) (e : EntryIndex) : OnlyTable w.s (w.deleteContent e).1.s := by
  unfold Work.deleteContent
  cases w.s.entry e with
  | empty => rfl
  | active old v u =>
    dsimp only
    split
    · exact reseat_onlyTable w e _
    · rfl
  | draining old v u r => rfl
  | poisoned old v r f => exact reseat_onlyTable w e _

theorem clearPoison_onlyTable (w : Work) (e : EntryIndex) : OnlyTable w.s (w.clearPoison e).1.s := by
  unfold Work.clearPoison
  cases w.s.entry e with
  | empty => rfl
  | active old v u => rfl
  | draining old v u r => rfl
  | poisoned old v r f =>
    cases r with
    | none => exact reseat_onlyTable w e _
    | some r => exact reseat_onlyTable _ e _

theorem portsMatched_deviceReset (s : State) : PortsMatched s.deviceReset := by
  intro p
  have line : ∀ x : HostPort, x.deviceReset.resetLow = true ↔ x.deviceReset.state = .inReset := by
    intro x
    cases h : x.resetLow <;> simp [HostPort.deviceReset, h]
  have quiet : ∀ x : HostPort, x.deviceReset.state = .idle ∨ x.deviceReset.state = .inReset := by
    intro x
    cases h : x.resetLow <;> simp [HostPort.deviceReset, h]
  cases p <;> exact ⟨line _, fun _ => quiet _, nofun⟩

theorem PortsMatched.deviceRelease {s : State} (matched : PortsMatched s) (during : s.inReset = true) :
    PortsMatched { s with ports := ⟨s.ports.a.deviceRelease, s.ports.b.deviceRelease⟩, inReset := false } := by
  have line : ∀ x : HostPort, x.deviceRelease.resetLow = true ↔ x.deviceRelease.state = .inReset := by
    intro x
    cases h : x.resetLow <;> simp [HostPort.deviceRelease, h]
  have unasked : ∀ p, s.mem.waiting.get p = none := fun p => matched.unasked fun h held => by
    rcases (matched p).quiet during with k | k <;> simp [k] at held
  intro p
  have none := unasked p
  cases p <;>
    exact ⟨line _, nofun, fun t h => absurd (none.symm.trans h) (by simp)⟩

theorem PortsMatched.countTick {s : State} (matched : PortsMatched s) : PortsMatched s.countTick := by
  intro p
  obtain ⟨line, quiet, asks⟩ := matched p
  have port : s.countTick.ports.get p = { s.ports.get p with state := (s.ports.get p).state.tick } := by cases p <;> rfl
  have reset : (s.ports.get p).state.tick = .inReset ↔ (s.ports.get p).state = .inReset := by
    cases (s.ports.get p).state <;> simp [PortState.tick]
  refine ⟨?_, fun during => ?_, fun t ht => ?_⟩
  · rw [port]
    exact line.trans reset.symm
  · rw [port]
    rcases quiet during with h | h
    · exact .inl (by simp [h, PortState.tick])
    · exact .inr (reset.mpr h)
  · obtain ⟨own, h, held, cause⟩ := asks t ht
    rw [port]
    exact ⟨own, { h with timer := h.timer.tick }, by simp [held, PortState.tick], cause⟩

/-- A port reset leaves the port IN_RESET with its line asserted, and without a request. -/
theorem PortsMatched.portReset {s : State} (matched : PortsMatched s) (p : Port) :
    PortsMatched (((s.begin.setPort p (s.ports.get p).portReset).orphanTransfer p).setWaiting p none).s := by
  rw [orphanTransfer_eq]
  exact matched.update p (x := (s.ports.get p).portReset) (w := none) rfl rfl rfl ⟨fun _ => rfl, fun _ => rfl⟩
    (fun _ => .inr rfl) nofun

/-- Every command keeps ports, reset lines and requests matched. -/
theorem portsMatched_kept : StepKeeps PortsMatched PortFree where
  choose _ _ matched := matched.of_same rfl rfl fun _ _ h => h
  vacate w p h matched held := by
    have awake := matched.awake (p := p) (by simp [held]) (by simp [held])
    refine ⟨matched.setState p (x := .idle) (w := none) rfl rfl rfl ?_ (fun _ => .inl rfl) nofun, ?_, ?_,
      awake⟩
    · rw [held]
      exact ⟨nofun, nofun⟩
    · exact congrArg HostPort.state (PerPort.get_set_same w.s.ports p _)
    · exact PerPort.get_set_same w.s.mem.waiting p none
  occupy _ _ _ free settles := free.occupy settles
  plain _ p h _ free := free.ask (h := { h with cause := .memory, entry := _ }) (t := plainTransfer p h.access _)
    rfl rfl rfl rfl rfl
  dropSnapshot w p e matched := by
    obtain ⟨ports, inReset, waiting⟩ := dropSnapshot_asks w p e
    exact matched.of_same ports inReset waiting
  dropSnapshotFree w p e free := by
    obtain ⟨ports, inReset, waiting⟩ := dropSnapshot_asks w p e
    exact free.of_same ports inReset waiting
  dropRecord w p e matched := by
    obtain ⟨ports, inReset, mem⟩ := dropRecord_asks w p e
    exact matched.of_same ports inReset fun _ _ h => by rwa [mem] at h
  openSnapshot w p h e c _ _ free _ _ _ := by
    rw [openSnapshot_s]
    exact free.ask (h := { h with cause := .memory, entry := some e }) rfl rfl rfl rfl rfl
  reopenSnapshot w p h e c _ _ _ free _ _ := by
    obtain ⟨ports, inReset, waiting⟩ := dropSnapshot_asks w p e
    rw [openSnapshot_s]
    exact PortFree.ask (w := w.dropSnapshot p e) (free.of_same ports inReset waiting)
      (h := { h with cause := .memory, entry := some e }) rfl rfl rfl rfl rfl
  retouchSnaps _ _ _ matched _ := matched.of_same rfl rfl fun _ _ h => h
  openRecord w p e c _ _ free _ _ _ _ := by
    rw [openRecord_s]
    exact free.of_same rfl rfl fun _ _ h => h
  reopenRecord w p e c _ _ _ free _ _ := by
    rw [openRecord_s, leave_s]
    exact free.of_same rfl rfl fun _ _ h => h
  retouchRecs _ _ _ matched _ := matched.of_same rfl rfl fun _ _ h => h
  enqueue w p e bytes matched _ := by
    rw [enqueue_s]
    split <;> exact matched.of_same rfl rfl fun _ _ h => h
  core _ _ same matched := matched.of_same same.ports same.inReset fun _ _ h => by rwa [same.mem] at h
  arrive s p matched taken := by
    simp only [State.takesArrival, Bool.and_eq_true, Bool.not_eq_true', beq_iff_eq] at taken
    obtain ⟨⟨awake, idle⟩, -⟩ := taken
    have unasked := matched.unasked (p := p) fun h held => by simp [idle] at held
    refine ⟨matched.update p (w := s.mem.waiting.get p) rfl rfl (PerPort.set_get _ _).symm (matched p).line
      (matched p).quiet (matched p).asks, ?_, unasked, awake⟩
    exact (congrArg HostPort.state (PerPort.get_set_same s.ports p _)).trans idle
  notes _ p _ matched notes := matched.notes p notes
  retry _ _ matched := matched.of_same rfl rfl fun _ _ h => h
  retouchFlight _ _ _ matched _ _ := matched.of_same rfl rfl fun _ _ h => h
  endFlight _ _ matched _ _ := matched.of_same rfl rfl fun _ _ h => h
  answerRunning w p r x matched running settles := by
    have awake := matched.awake (p := p) (by simp [running]) (by simp [running])
    have unasked := matched.unasked (p := p) fun h held => by simp [running] at held
    refine matched.setState p (w := none) rfl rfl ?_ ?_ (fun during => ?_) nofun
    · exact (PerPort.set_get w.s.mem.waiting p).symm.trans (by rw [unasked])
    · rw [running]
      exact ⟨fun h => absurd h (portSettles_ne_inReset settles), nofun⟩
    · rw [awake] at during
      contradiction
  commitDone v w f matched _ _ ended := by
    obtain ⟨ports, inReset, waiting⟩ := commitDone_asks w
    rw [ended] at ports inReset waiting
    exact matched.of_same ports inReset fun _ _ h => by rw [waiting] at h; exact h
  commitFailed v w f matched _ _ ended := by
    obtain ⟨ports, inReset, waiting⟩ := commitFailed_asks w f.attempts
    rw [ended] at ports inReset waiting
    exact matched.of_same ports inReset waiting
  grantNext _ matched := matched.grantNext
  portReset _ p matched := matched.portReset p
  portResetInReset s p matched during := by
    have unasked := matched.unasked (p := p) fun h held => by
      rcases (matched p).quiet during with k | k <;> simp [k] at held
    exact matched.update p (x := (s.ports.get p).portReset) (w := none) rfl rfl
      ((PerPort.set_get s.mem.waiting p).symm.trans (by rw [unasked])) ⟨fun _ => rfl, fun _ => rfl⟩
      (fun _ => .inr rfl) nofun
  portRelease s p matched low := by
    have unasked := matched.unasked (p := p) fun h held => by
      simp [(matched p).line.mp low] at held
    exact matched.update p (x := (s.ports.get p).portRelease) (w := none) rfl rfl
      ((PerPort.set_get s.mem.waiting p).symm.trans (by rw [unasked]))
      ⟨nofun, nofun⟩ (fun _ => .inl rfl) nofun
  flushAccess _ p matched := matched.flushAccess p
  editEntry w e c matched := by
    rw [← editEntry_onlyTable w e c]
    exact matched.of_same rfl rfl fun _ _ h => h
  deleteContent w e matched := by
    rw [← deleteContent_onlyTable w e]
    exact matched.of_same rfl rfl fun _ _ h => h
  clearPoison w e matched := by
    rw [← clearPoison_onlyTable w e]
    exact matched.of_same rfl rfl fun _ _ h => h
  deviceReset := portsMatched_deviceReset
  deviceRelease _ matched during := matched.deviceRelease during
  countTick _ matched := matched.countTick

end Sys2Proof.Machine
end

section
/-! PROOFS. The commit engine works on the head of the queue with the burst R81 writes out, and the statement O60. -/

namespace Sys2Proof.Machine

open Sys2Proof

/-! ## Two invariants together -/

/-- What the moves of every command keep of two predicates, they keep of both together. -/
theorem StepKeeps.and {P Q : State → Prop} {F G : Port → State → Prop} (k : StepKeeps P F) (l : StepKeeps Q G) :
    StepKeeps (fun s => P s ∧ Q s) fun p s => F p s ∧ G p s where
  choose s n h := ⟨k.choose s n h.1, l.choose s n h.2⟩
  vacate w p x h held := ⟨k.vacate w p x h.1 held, l.vacate w p x h.2 held⟩
  occupy w p x h fits := ⟨k.occupy w p x h.1 fits, l.occupy w p x h.2 fits⟩
  plain w p x e h := ⟨k.plain w p x e h.1, l.plain w p x e h.2⟩
  dropSnapshot w p e h := ⟨k.dropSnapshot w p e h.1, l.dropSnapshot w p e h.2⟩
  dropSnapshotFree w p e h := ⟨k.dropSnapshotFree w p e h.1, l.dropSnapshotFree w p e h.2⟩
  dropRecord w p e h := ⟨k.dropRecord w p e h.1, l.dropRecord w p e h.2⟩
  openSnapshot w p x e c v u h a n r :=
    ⟨k.openSnapshot w p x e c v u h.1 a n r, l.openSnapshot w p x e c v u h.2 a n r⟩
  reopenSnapshot w p x e c v u y h a n :=
    ⟨k.reopenSnapshot w p x e c v u y h.1 a n, l.reopenSnapshot w p x e c v u y h.2 a n⟩
  retouchSnaps w p f h same := ⟨k.retouchSnaps w p f h.1 same, l.retouchSnaps w p f h.2 same⟩
  openRecord w p e c v u h a n x r := ⟨k.openRecord w p e c v u h.1 a n x r, l.openRecord w p e c v u h.2 a n x r⟩
  reopenRecord w p e c v u r h a n := ⟨k.reopenRecord w p e c v u r h.1 a n, l.reopenRecord w p e c v u r h.2 a n⟩
  retouchRecs w p f h same := ⟨k.retouchRecs w p f h.1 same, l.retouchRecs w p f h.2 same⟩
  enqueue w p e b h on := ⟨k.enqueue w p e b h.1 on, l.enqueue w p e b h.2 on⟩
  core s t same h := ⟨k.core s t same h.1, l.core s t same h.2⟩
  arrive s p h taken := ⟨k.arrive s p h.1 taken, l.arrive s p h.2 taken⟩
  notes w p x h notes := ⟨k.notes w p x h.1 notes, l.notes w p x h.2 notes⟩
  retry w n h := ⟨k.retry w n h.1, l.retry w n h.2⟩
  retouchFlight w f g h flying same := ⟨k.retouchFlight w f g h.1 flying same, l.retouchFlight w f g h.2 flying same⟩
  endFlight w f h flying other := ⟨k.endFlight w f h.1 flying other, l.endFlight w f h.2 flying other⟩
  answerRunning w p r x h run fits := ⟨k.answerRunning w p r x h.1 run fits, l.answerRunning w p r x h.2 run fits⟩
  commitDone v w f h flying own ended := ⟨k.commitDone v w f h.1 flying own ended, l.commitDone v w f h.2 flying own ended⟩
  commitFailed v w f h flying own ended :=
    ⟨k.commitFailed v w f h.1 flying own ended, l.commitFailed v w f h.2 flying own ended⟩
  grantNext w h := ⟨k.grantNext w h.1, l.grantNext w h.2⟩
  portReset s p h := ⟨k.portReset s p h.1, l.portReset s p h.2⟩
  portResetInReset s p h during := ⟨k.portResetInReset s p h.1 during, l.portResetInReset s p h.2 during⟩
  portRelease s p h low := ⟨k.portRelease s p h.1 low, l.portRelease s p h.2 low⟩
  flushAccess w p h := ⟨k.flushAccess w p h.1, l.flushAccess w p h.2⟩
  editEntry w e c h := ⟨k.editEntry w e c h.1, l.editEntry w e c h.2⟩
  deleteContent w e h := ⟨k.deleteContent w e h.1, l.deleteContent w e h.2⟩
  clearPoison w e h := ⟨k.clearPoison w e h.1, l.clearPoison w e h.2⟩
  deviceReset s := ⟨k.deviceReset s, l.deviceReset s⟩
  deviceRelease s h during := ⟨k.deviceRelease s h.1 during, l.deviceRelease s h.2 during⟩
  countTick s h := ⟨k.countTick s h.1, l.countTick s h.2⟩

/-! ## The content under a queued record -/

theorem queued_pos {s : State} {r : CommitRecord} (queued : r ∈ s.queue) :
    0 < (s.tally r.entry).queued.a + (s.tally r.entry).queued.b := by
  rw [← queuedCount_eq]
  exact List.countP_pos_iff.mpr ⟨r, queued, beq_self_eq_true _⟩

/-- The entry of a queued record has users. -/
theorem users_of_queued {s : State} (exact : EveryTally Tally.exact s) {r : CommitRecord} (queued : r ∈ s.queue) :
    0 < (s.entry r.entry).users := by
  have users : (s.entry r.entry).users = (s.tally r.entry).sum := exact r.entry
  have pos := queued_pos queued
  rw [users, Tally.sum]
  omega

/-- An entry with users has an installed content. -/
theorem content_of_users {x : Entry} (used : 0 < x.users) : ∃ c, x.content? = some c := by
  cases x with
  | active c v u => exact ⟨c, rfl⟩
  | draining c v u r => exact ⟨c, rfl⟩
  | empty => exact absurd used (Nat.lt_irrefl 0)
  | poisoned c v r k => exact ⟨c, rfl⟩

/-- An entry that another user stays on keeps its content. -/
theorem content_left {x : Entry} (used : 2 ≤ x.users) : x.left.content? = x.content? := by
  cases x with
  | draining c v u r =>
    have used : 2 ≤ u := used
    rw [Entry.left, if_neg (by omega)]
    rfl
  | _ => rfl

@[simp] theorem content_joined (x : Entry) : x.joined.content? = x.content? := by cases x <;> rfl

@[simp] theorem content_raised (x : Entry) : x.raised.content? = x.content? := by cases x <;> rfl

/-- Where one tally alone changes, every queued record keeps the content under it if that one entry does. -/
theorem OnlyTally.content {s t : State} {e : EntryIndex} {x : Tally} (only : OnlyTally s t e x) {l : List CommitRecord}
    (here : (∃ r ∈ l, r.entry = e) → x.entry.content? = (s.entry e).content?) :
    ∀ r ∈ l, (t.entry r.entry).content? = (s.entry r.entry).content? := by
  intro r queued
  by_cases same : r.entry = e
  · rw [same, ← here ⟨r, queued, same⟩, ← only.here]
    rfl
  · exact congrArg (fun x => x.entry.content?) (only.others _ same)

/-! ## The engine -/

theorem engineMatched_nil {s : State} (empty : s.queue = []) :
    s.engineMatched ↔ s.mem.waitingCommit = none ∧ s.mem.commitInFlight = none := by
  unfold State.engineMatched
  rw [empty]

theorem engineMatched_cons {s : State} {r : CommitRecord} {rest : List CommitRecord} (head : s.queue = r :: rest) :
    s.engineMatched ↔ ∃ c, (s.entry r.entry).content? = some c
      ∧ ((s.mem.waitingCommit = some (commitTransfer r c) ∧ s.mem.commitInFlight = none)
        ∨ (s.mem.waitingCommit = none ∧ s.mem.commitInFlight = some (commitTransfer r c))) := by
  unfold State.engineMatched
  rw [head]

/-- The engine looks at the queue, its request, its transfer and the content under the head. -/
theorem engine_of_same {s t : State} (matched : s.engineMatched) (queue : t.queue = s.queue)
    (waiting : t.mem.waitingCommit = s.mem.waitingCommit) (flight : t.mem.commitInFlight = s.mem.commitInFlight)
    (content : ∀ r ∈ s.queue, (t.entry r.entry).content? = (s.entry r.entry).content?) : t.engineMatched := by
  cases head : s.queue with
  | nil =>
    rw [engineMatched_nil (queue.trans head), waiting, flight]
    exact (engineMatched_nil head).mp matched
  | cons r rest =>
    rw [engineMatched_cons (queue.trans head), waiting, flight, content r (by simp [head])]
    exact (engineMatched_cons head).mp matched

/-- An engine at rest that has just taken the head of the queue is matched. -/
theorem engine_of_taken {s : State} (exact : EveryTally Tally.exact s) (waiting : s.mem.waitingCommit = s.headBurst)
    (landed : s.mem.commitInFlight = none) : s.engineMatched := by
  cases head : s.queue with
  | nil =>
    rw [engineMatched_nil head, waiting, State.headBurst, head]
    exact ⟨rfl, landed⟩
  | cons r rest =>
    obtain ⟨c, content⟩ := content_of_users (users_of_queued exact (r := r) (by simp [head]))
    rw [engineMatched_cons head, waiting, State.headBurst, head]
    exact ⟨c, content, .inl ⟨by simp [content], landed⟩⟩

theorem commitInFlight_none {m : MemoryPort} (landed : m.inFlight = none) : m.commitInFlight = none := by
  unfold MemoryPort.commitInFlight
  rw [landed]

theorem commitInFlight_own {m : MemoryPort} {f : InFlight} (flying : m.inFlight = some f)
    (own : f.transfer.purpose.requester = .commit) : m.commitInFlight = some f.transfer := by
  unfold MemoryPort.commitInFlight
  rw [flying]
  exact if_pos own

theorem commitInFlight_other {m : MemoryPort} {f : InFlight} (flying : m.inFlight = some f)
    (other : f.transfer.purpose.requester ≠ .commit) : m.commitInFlight = none := by
  unfold MemoryPort.commitInFlight
  rw [flying]
  exact if_neg other

/-- A commit in flight is the head's, and the engine asks for nothing. -/
theorem waitingCommit_of_flight {s : State} (matched : s.engineMatched) {f : InFlight} (flying : s.mem.inFlight = some f)
    (own : f.transfer.purpose.requester = .commit) : s.mem.waitingCommit = none := by
  have flight := commitInFlight_own flying own
  cases head : s.queue with
  | nil =>
    obtain ⟨-, landed⟩ := (engineMatched_nil head).mp matched
    rw [flight] at landed
    contradiction
  | cons r rest =>
    obtain ⟨c, -, ⟨-, landed⟩ | ⟨waiting, -⟩⟩ := (engineMatched_cons head).mp matched
    · rw [flight] at landed
      contradiction
    · exact waiting

/-- A waiting commit is a commit, and no other is in flight. -/
theorem request_of_waitingCommit {s : State} (matched : s.engineMatched) {t : Transfer}
    (waiting : s.mem.waitingCommit = some t) : t.purpose.requester = .commit ∧ s.mem.commitInFlight = none := by
  cases head : s.queue with
  | nil =>
    obtain ⟨none, -⟩ := (engineMatched_nil head).mp matched
    rw [waiting] at none
    contradiction
  | cons r rest =>
    obtain ⟨c, -, ⟨burst, landed⟩ | ⟨none, -⟩⟩ := (engineMatched_cons head).mp matched
    · rw [waiting] at burst
      cases burst
      exact ⟨rfl, landed⟩
    · rw [waiting] at none
      contradiction

section Moves
variable {w : Work}

theorem engine_dropSnapshot (exact : EveryTally Tally.exact w.s) (matched : w.s.engineMatched) (p : Port) (e : EntryIndex) :
    (w.dropSnapshot p e).s.engineMatched := by
  cases on : w.s.snapshotOn p e with
  | none =>
    rw [Work.dropSnapshot_none on]
    exact matched
  | some x =>
    refine engine_of_same matched ?_ ?_ ?_ ((onlyTally_dropSnapshot on).content ?_)
    iterate 3 rw [dropSnapshot_s on]; rfl
    rintro ⟨r, queued, rfl⟩
    refine content_left (x := w.s.entry r.entry) ?_
    have users : (w.s.entry r.entry).users = (w.s.tally r.entry).sum := exact r.entry
    have pos := queued_pos queued
    have snap := countOn_of_snapshotOn on
    rw [users, Tally.sum]
    cases p <;> simp only [PerPort.get_a, PerPort.get_b] at snap <;> omega

theorem engine_dropRecord (exact : EveryTally Tally.exact w.s) (matched : w.s.engineMatched) (p : Port) (e : EntryIndex) :
    (w.dropRecord p e).s.engineMatched := by
  cases on : w.s.recordOn p e with
  | none =>
    rw [Work.dropRecord_none on]
    exact matched
  | some x =>
    obtain ⟨-, -, mem⟩ := dropRecord_asks w p e
    refine engine_of_same matched ?_ (by rw [mem]) (by rw [mem]) ((onlyTally_dropRecord on).content ?_)
    · rw [dropRecord_s on, left_queue, claimChecked_queue]
      rfl
    · rintro ⟨r, queued, rfl⟩
      have entry : (((w.s.tally r.entry).lessOpen p).checked p).entry = w.s.entry r.entry := checked_entry
      change ((((w.s.tally r.entry).lessOpen p).checked p).entry).left.content? = _
      rw [entry]
      refine content_left ?_
      have users : (w.s.entry r.entry).users = (w.s.tally r.entry).sum := exact r.entry
      have pos := queued_pos queued
      have opened := countOn_of_recordOn on
      rw [users, Tally.sum]
      cases p <;> simp only [PerPort.get_a, PerPort.get_b] at opened <;> omega

theorem engine_openSnapshot (matched : w.s.engineMatched) (p : Port) (h : Held) (e : EntryIndex) (c : Content) :
    (w.openSnapshot p h e c).s.engineMatched := by
  refine engine_of_same matched ?_ ?_ ?_ ((onlyTally_openSnapshot w p h e c).content fun _ => content_joined _)
  iterate 3 rw [openSnapshot_s]; rfl

theorem engine_openRecord (matched : w.s.engineMatched) (p : Port) (e : EntryIndex) (c : Content) :
    (w.openRecord p e c).s.engineMatched := by
  refine engine_of_same matched ?_ ?_ ?_ ((onlyTally_openRecord w p e c).content fun _ => content_joined _)
  iterate 3 rw [openRecord_s]; rfl

/-- A leaving of an ACTIVE entry lets every content stay. -/
theorem engine_leaveActive {p : Port} {e : EntryIndex} {c : Content} {v : BitVec 16} {u : Nat}
    (matched : w.s.engineMatched) (active : w.s.entry e = .active c v u) :
    ((w.setRecs p ((w.s.recs.get p).eraseP fun r => r.entry == e)).leave e).s.engineMatched := by
  have erased : (w.setRecs p ((w.s.recs.get p).eraseP fun r => r.entry == e)).s.engineMatched := matched
  refine engine_of_same erased ?_ ?_ ?_ ((onlyTally_leave _ e).content fun _ => ?_)
  iterate 3 rw [leave_s]; rfl
  change (w.s.entry e).left.content? = (w.s.entry e).content?
  rw [active]
  rfl

/-- A record that finds the queue empty gives the engine its burst (R78, R80). -/
theorem engine_enqueue (matched : w.s.engineMatched) (r : CommitRecord)
    (content : ∃ c, (w.s.entry r.entry).content? = some c) : (w.enqueue r).s.engineMatched := by
  rw [enqueue_s]
  cases head : w.s.queue with
  | nil =>
    obtain ⟨waiting, landed⟩ := (engineMatched_nil head).mp matched
    obtain ⟨c, content⟩ := content
    rw [if_pos rfl, engineMatched_cons rfl]
    refine ⟨c, content, .inl ⟨?_, landed⟩⟩
    change (((w.s.entry r.entry).content?.map (commitTransfer r)).or _) = _
    rw [content]
    rfl
  | cons q rest =>
    rw [if_neg nofun, engineMatched_cons (r := q) (rest := rest ++ [r]) rfl]
    exact (engineMatched_cons head).mp matched

/-- The entry of an OPEN record has an installed content. -/
theorem content_of_record (exact : EveryTally Tally.exact w.s) {p : Port} {e : EntryIndex}
    (on : ∃ r ∈ w.s.recs.get p, r.entry = e) : ∃ c, (w.s.entry e).content? = some c := by
  have opened : 0 < (w.s.tally e).opens.get p := by
    rw [tally_opens_get]
    exact (countOn_pos _ e).mpr on
  have users : (w.s.entry e).users = (w.s.tally e).sum := exact e
  apply content_of_users
  rw [users, Tally.sum]
  cases p <;> simp only [PerPort.get_a, PerPort.get_b] at opened <;> omega

/-- The next record of the queue keeps the content that it was enqueued under while the head's user leaves. -/
theorem headBurst_commitDone (exact : EveryTally Tally.exact w.s) {r : CommitRecord} {rest : List CommitRecord}
    (head : w.s.queue = r :: rest) : State.headBurst { w.s with queue := rest } = w.commitDone.s.headBurst := by
  have queue : w.commitDone.s.queue = rest := by
    rw [commitDone_s head, left_queue]
    change (State.claimChecked _ _ _).queue = _
    rw [claimChecked_queue]
    rfl
  unfold State.headBurst
  rw [queue]
  cases rest with
  | nil => rfl
  | cons q rest =>
    have kept := (onlyTally_commitDone head).content (l := q :: rest) (by
      rintro ⟨g, queued, same⟩
      change (w.s.entry r.entry).raised.left.content? = _
      rw [content_left, content_raised]
      rw [users_raised]
      have users : (w.s.entry r.entry).users = (w.s.tally r.entry).sum := exact r.entry
      have count : 2 ≤ (w.s.tally r.entry).queued.a + (w.s.tally r.entry).queued.b := by
        rw [← queuedCount_eq, State.queuedCount, head, List.countP_cons_of_pos (by simp)]
        have more : 0 < (q :: rest).countP fun x => x.entry == r.entry :=
          List.countP_pos_iff.mpr ⟨g, queued, by simp [same]⟩
        omega
      rw [users, Tally.sum]
      omega)
    change _ = Option.map _ (w.commitDone.s.entry q.entry).content?
    rw [kept q (by simp)]
    rfl

/-- The grant of a commit's request puts the head's burst in flight; the grant of a port side's leaves the engine alone. -/
theorem engine_grantNext (ports : PortsMatched w.s) (matched : w.s.engineMatched) : w.grantNext.s.engineMatched := by
  rcases grantNext_cases w with k | ⟨r, t, landed, next, k⟩ <;> rw [k]
  · exact matched
  · have request := next_request next
    cases r with
    | port p =>
      obtain ⟨own, -⟩ := (ports p).asks t request
      refine engine_of_same matched rfl rfl ?_ fun _ _ => rfl
      rw [commitInFlight_none landed]
      exact commitInFlight_other rfl (by simp [Transfer.granted, own])
    | commit =>
      have waiting : w.s.mem.waitingCommit = some t := request
      obtain ⟨own, idle⟩ := request_of_waitingCommit matched waiting
      cases head : w.s.queue with
      | nil =>
        obtain ⟨none, -⟩ := (engineMatched_nil head).mp matched
        rw [waiting] at none
        contradiction
      | cons q rest =>
        obtain ⟨c, content, ⟨burst, -⟩ | ⟨none, -⟩⟩ := (engineMatched_cons head).mp matched
        · dsimp only
          rw [engineMatched_cons (s := (w.setMem _).s) (r := q) (rest := rest) (by exact head)]
          refine ⟨c, content, .inr ⟨rfl, ?_⟩⟩
          rw [← burst, waiting]
          exact commitInFlight_own (f := t.granted _) rfl own
        · rw [waiting] at none
          contradiction

/-- The content an edit replaces at once is one no record is queued under (R20, R21, R24). -/
theorem engine_reseat (exact : EveryTally Tally.exact w.s) (matched : w.s.engineMatched) {e : EntryIndex}
    (free : (w.s.entry e).users = 0) (x : Entry) : (w.reseat e x).s.engineMatched := by
  refine engine_of_same matched ?_ ?_ ?_ ((onlyTally_reseat w e x).content ?_)
  iterate 3 rw [Work.reseat_s]; rfl
  rintro ⟨r, queued, rfl⟩
  exact absurd (users_of_queued exact queued) (by omega)

theorem engine_setEntry (matched : w.s.engineMatched) {e : EntryIndex} {x : Entry}
    (content : x.content? = (w.s.entry e).content?) : (w.setEntry e x).s.engineMatched :=
  engine_of_same matched rfl rfl rfl (onlyTally_withEntry.content fun _ => content)

theorem engine_editEntry (exact : EveryTally Tally.exact w.s) (matched : w.s.engineMatched) (e : EntryIndex) (c : Content) :
    (w.editEntry e c).1.s.engineMatched := by
  unfold Work.editEntry
  split
  · split
    · exact matched
    · unfold Work.writeContent
      split
      · next h => exact engine_reseat exact matched (by rw [h]; rfl) _
      · next h =>
        split
        · next zero => exact engine_reseat exact matched (by rw [h]; exact zero) _
        · exact engine_setEntry matched (by rw [h]; rfl)
      · next h => exact engine_setEntry matched (by rw [h]; rfl)
      · next h => exact engine_reseat exact matched (by rw [h]; rfl) _
  · exact matched

theorem engine_deleteContent (exact : EveryTally Tally.exact w.s) (matched : w.s.engineMatched) (e : EntryIndex) :
    (w.deleteContent e).1.s.engineMatched := by
  unfold Work.deleteContent
  split
  · exact matched
  · next h =>
    split
    · next zero => exact engine_reseat exact matched (by rw [h]; exact zero) _
    · exact engine_setEntry matched (by rw [h]; rfl)
  · next h => exact engine_setEntry matched (by rw [h]; rfl)
  · next h => exact engine_reseat exact matched (by rw [h]; rfl) _

theorem engine_clearPoison (exact : EveryTally Tally.exact w.s) (matched : w.s.engineMatched) (e : EntryIndex) :
    (w.clearPoison e).1.s.engineMatched := by
  unfold Work.clearPoison
  split
  · exact matched
  · exact matched
  · exact matched
  · next h => exact engine_reseat exact matched (by rw [h]; rfl) _
  · next r _ h => exact engine_reseat exact matched (by rw [h]; rfl) r.installed

end Moves

/-! ## Ends of commits -/

/-- A commit that has succeeded leaves the engine with the next head's burst (R80, R81). -/
theorem engine_commitDone {v w : Work} {f : InFlight} (exact : EveryTally Tally.exact w.commitDone.s)
    (before : EveryTally Tally.exact w.s) (matched : v.s.engineMatched) (flying : v.s.mem.inFlight = some f)
    (own : f.transfer.purpose.requester = .commit) (ended : w.s = (v.setInFlight none).s) :
    w.commitDone.s.engineMatched := by
  have idle : w.s.mem.waitingCommit = none := by
    rw [ended]
    exact (waitingCommit_of_flight matched flying own :)
  have landed : w.s.mem.inFlight = none := by rw [ended]; rfl
  cases head : w.s.queue with
  | nil =>
    rw [commitDone_nil head, engineMatched_nil head]
    exact ⟨idle, commitInFlight_none landed⟩
  | cons r rest =>
    have mem : w.commitDone.s.mem =
        { w.s.mem with waitingCommit := (State.headBurst { w.s with queue := rest }).or w.s.mem.waitingCommit } := by
      rw [commitDone_s head, left_mem]
      change (State.claimChecked _ _ _).mem = _
      rw [claimChecked_mem]
      rfl
    refine engine_of_taken exact ?_ ?_ <;> rw [mem]
    · rw [← headBurst_commitDone before head, idle, Option.or_none]
    · exact commitInFlight_none landed

/-- A commit that has failed leaves the engine with the burst of the next record that the poisoning spares (R82). -/
theorem engine_commitFailed {v w : Work} {f : InFlight} {n : Nat} (exact : EveryTally Tally.exact (w.commitFailed n).s)
    (matched : v.s.engineMatched) (flying : v.s.mem.inFlight = some f)
    (own : f.transfer.purpose.requester = .commit) (ended : w.s = (v.setInFlight none).s) :
    (w.commitFailed n).s.engineMatched := by
  have idle : w.s.mem.waitingCommit = none := by
    rw [ended]
    exact (waitingCommit_of_flight matched flying own :)
  have landed : w.s.mem.inFlight = none := by rw [ended]; rfl
  cases head : w.s.queue with
  | nil =>
    rw [commitFailed_nil head, engineMatched_nil head]
    exact ⟨idle, commitInFlight_none landed⟩
  | cons r rest =>
    refine engine_of_taken exact ?_ ?_ <;> rw [commitFailed_s head]
    · rw [idle, Option.or_none]
      rfl
    · exact commitInFlight_none landed

/-! ## Every step -/

/-- The engine looks at the transfer in flight alone, not at how far it is. -/
theorem commitInFlight_congr {m n : MemoryPort} (same : m.inFlight.map InFlight.transfer = n.inFlight.map InFlight.transfer) :
    m.commitInFlight = n.commitInFlight := by
  unfold MemoryPort.commitInFlight
  cases hm : m.inFlight <;> cases hn : n.inFlight <;> simp_all

theorem commitInFlight_orphan (m : MemoryPort) (p : Port) :
    MemoryPort.commitInFlight
      { m with inFlight := m.inFlight.map fun f => if f.ofPort p = true then { f with orphan := true } else f }
      = m.commitInFlight := by
  refine commitInFlight_congr ?_
  cases m.inFlight with
  | none => rfl
  | some f =>
    change some (InFlight.transfer (if f.ofPort p = true then _ else f)) = some f.transfer
    split <;> rfl

theorem engine_countTick {s : State} (matched : s.engineMatched) : s.countTick.engineMatched := by
  refine engine_of_same matched rfl rfl (commitInFlight_congr ?_) fun _ _ => rfl
  cases flying : s.mem.inFlight <;> simp [State.countTick, flying]

/-- Every command keeps the user counts exact, the ports matched and the engine at the head of the queue. -/
theorem engineMatched_kept :
    StepKeeps (fun s => (EveryTally Tally.exact s ∧ PortsMatched s) ∧ s.engineMatched)
      fun p s => (EveryTally Tally.exact s ∧ PortFree p s) ∧ s.engineMatched :=
  have base := usersExact_kept.and portsMatched_kept
  { choose := fun s n h => ⟨base.choose s n h.1, h.2⟩
    vacate := fun w p x h held => ⟨base.vacate w p x h.1 held, h.2⟩
    occupy := fun w p x h fits => ⟨base.occupy w p x h.1 fits, h.2⟩
    plain := fun w p x e h => ⟨base.plain w p x e h.1, h.2⟩
    dropSnapshot := fun w p e h => ⟨base.dropSnapshot w p e h.1, engine_dropSnapshot h.1.1 h.2 p e⟩
    dropSnapshotFree := fun w p e h => ⟨base.dropSnapshotFree w p e h.1, engine_dropSnapshot h.1.1 h.2 p e⟩
    dropRecord := fun w p e h => ⟨base.dropRecord w p e h.1, engine_dropRecord h.1.1 h.2 p e⟩
    openSnapshot := fun w p x e c v u h a n r =>
      ⟨base.openSnapshot w p x e c v u h.1 a n r, engine_openSnapshot h.2 p x e c⟩
    reopenSnapshot := fun w p x e c v u y h a n =>
      ⟨base.reopenSnapshot w p x e c v u y h.1 a n, engine_openSnapshot (engine_dropSnapshot h.1.1 h.2 p e) p x e c⟩
    retouchSnaps := fun w p f h same => ⟨base.retouchSnaps w p f h.1 same, h.2⟩
    openRecord := fun w p e c v u h a n x r => ⟨base.openRecord w p e c v u h.1 a n x r, engine_openRecord h.2 p e c⟩
    reopenRecord := fun w p e c v u r h a n =>
      ⟨base.reopenRecord w p e c v u r h.1 a n, engine_openRecord (engine_leaveActive h.2 a) p e c⟩
    retouchRecs := fun w p f h same => ⟨base.retouchRecs w p f h.1 same, h.2⟩
    enqueue := fun w p e b h on =>
      ⟨base.enqueue w p e b h.1 on, engine_enqueue (w := w.setRecs p _) h.2 _ (content_of_record h.1.1 on)⟩
    core := fun s t same h => ⟨base.core s t same h.1, engine_of_same h.2 same.queue (by rw [same.mem]) (by rw [same.mem])
      fun r _ => by rw [State.entry, same.table]; rfl⟩
    arrive := fun s p h taken => ⟨base.arrive s p h.1 taken, h.2⟩
    notes := fun w p x h notes => ⟨base.notes w p x h.1 notes, h.2⟩
    retry := fun w n h => ⟨base.retry w n h.1, h.2⟩
    retouchFlight := fun w f g h flying same => ⟨base.retouchFlight w f g h.1 flying same,
      engine_of_same h.2 rfl rfl (commitInFlight_congr (by rw [flying]; exact congrArg some same)) fun _ _ => rfl⟩
    endFlight := fun w f h flying other => ⟨base.endFlight w f h.1 flying other,
      engine_of_same h.2 rfl rfl ((commitInFlight_none rfl).trans (commitInFlight_other flying other).symm) fun _ _ => rfl⟩
    answerRunning := fun w p r x h run fits => ⟨base.answerRunning w p r x h.1 run fits, h.2⟩
    commitDone := fun v w f h flying own ended =>
      have after := base.commitDone v w f h.1 flying own ended
      ⟨after, engine_commitDone after.1 (by rw [ended]; exact h.1.1) h.2 flying own ended⟩
    commitFailed := fun v w f h flying own ended =>
      have after := base.commitFailed v w f h.1 flying own ended
      ⟨after, engine_commitFailed after.1 h.2 flying own ended⟩
    grantNext := fun w h => ⟨base.grantNext w h.1, engine_grantNext h.1.2 h.2⟩
    portReset := fun s p h => ⟨base.portReset s p h.1, by
      rw [orphanTransfer_eq]
      exact engine_of_same h.2 rfl rfl (commitInFlight_orphan s.mem p) fun _ _ => rfl⟩
    portResetInReset := fun s p h during => ⟨base.portResetInReset s p h.1 during, h.2⟩
    portRelease := fun s p h low => ⟨base.portRelease s p h.1 low, h.2⟩
    flushAccess := fun w p h => ⟨base.flushAccess w p h.1, h.2⟩
    editEntry := fun w e c h => ⟨base.editEntry w e c h.1, engine_editEntry h.1.1 h.2 e c⟩
    deleteContent := fun w e h => ⟨base.deleteContent w e h.1, engine_deleteContent h.1.1 h.2 e⟩
    clearPoison := fun w e h => ⟨base.clearPoison w e h.1, engine_clearPoison h.1.1 h.2 e⟩
    deviceReset := fun s => ⟨base.deviceReset s, ⟨rfl, rfl⟩⟩
    deviceRelease := fun s h during => ⟨base.deviceRelease s h.1 during, h.2⟩
    countTick := fun s h => ⟨base.countTick s h.1, engine_countTick h.2⟩ }

/-! ## The burst, written out (R81) -/

theorem commitTransfer_isBurstOf (r : CommitRecord) (c : Content) : (commitTransfer r c).isBurstOf r c := by
  refine ⟨rfl, rfl, fun bound => ?_, rfl, by simp [commitTransfer], fun k w word l hl => ?_⟩
  · exact Nat.mod_eq_of_lt bound
  · obtain rfl : commitWord r.bytes k = w := by
      obtain ⟨i, at_k, rfl⟩ : ∃ i, (List.range c.extent)[k]? = some i ∧ commitWord r.bytes i = w := by
        simpa [commitTransfer] using word
      rw [List.getElem?_range (by simpa using (List.getElem?_eq_some_iff.mp at_k).1)] at at_k
      cases at_k
      rfl
    obtain ⟨lane, byte⟩ := commitWord_lane r.bytes k hl
    rw [lane]
    change match r.bytes[4 * k + l]? with
      | some (some b) => _ ∧ byteLane (commitWord r.bytes k).data l = b
      | _ => _ ∧ byteLane (commitWord r.bytes k).data l = 0
    rw [byte]
    rcases r.bytes[4 * k + l]? with _ | _ | b <;> exact ⟨rfl, rfl⟩

theorem burst_of_engineMatched {s : State} (matched : s.engineMatched) {r : CommitRecord} {rest : List CommitRecord}
    {c : Content} {x : Transfer} (head : s.queue = r :: rest) (content : (s.entry r.entry).content? = some c)
    (works : s.mem.waitingCommit = some x ∨ s.mem.commitInFlight = some x) : x.isBurstOf r c := by
  obtain ⟨c', content', engine⟩ := (engineMatched_cons head).mp matched
  rw [content] at content'
  cases content'
  have burst : x = commitTransfer r c := by
    rcases engine with ⟨waiting, flight⟩ | ⟨waiting, flight⟩ <;> simp_all
  rw [burst]
  exact commitTransfer_isBurstOf r c

end Sys2Proof.Machine

namespace Sys2Proof.Proofs

open Sys2Proof Sys2Proof.Machine

/-- Settles O60: ports, reset lines and requests stay matched by themselves; the engine stays with the head's burst because
a queued record is a user that keeps the content under it. -/
theorem stepKeepsPortsAndEngineMatched : Obligations.StepKeepsPortsAndEngineMatched := by
  intro s t exact ports engine stepped
  obtain ⟨⟨-, ports'⟩, engine'⟩ := engineMatched_kept.step
    ⟨⟨(usersExact_iff s).mp exact, (portsMatched_iff s).mp ports⟩, engine⟩ stepped
  exact ⟨(portsMatched_iff t).mpr ports', engine', fun r rest c x head content works =>
    burst_of_engineMatched engine' head content works⟩

end Sys2Proof.Proofs
end

section
/-! PROOFS. The frame of an event: what classifications, discards and ends of transfers leave alone; and what every command
keeps of the event queue, the settings, the pins, the commands that wait and the transfer in flight. -/

namespace Sys2Proof.Machine

open Sys2Proof

/-! ## The frame -/

/-- Two states agree in the time base, the event queue, the link, the pins, the commands that wait, each port but for its
state, and the memory port but for what waits there. -/
structure SameFrame (s t : State) : Prop where
  time : t.time = s.time
  events : t.events = s.events
  link : t.link = s.link
  inReset : t.inReset = s.inReset
  pins : t.pins = s.pins
  pending : t.pending = s.pending
  ports : ∀ p, t.ports.get p = { s.ports.get p with state := (t.ports.get p).state }
  mem : t.mem = { s.mem with waiting := t.mem.waiting, waitingCommit := t.mem.waitingCommit }

theorem SameFrame.refl (s : State) : SameFrame s s := ⟨rfl, rfl, rfl, rfl, rfl, rfl, fun _ => rfl, rfl⟩

theorem SameFrame.trans {s t u : State} (h : SameFrame s t) (k : SameFrame t u) : SameFrame s u where
  time := k.time.trans h.time
  events := k.events.trans h.events
  link := k.link.trans h.link
  inReset := k.inReset.trans h.inReset
  pins := k.pins.trans h.pins
  pending := k.pending.trans h.pending
  ports p := by
    rw [k.ports, h.ports]
  mem := by
    rw [k.mem, h.mem]

theorem SameFrame.holdLimit {s t : State} (same : SameFrame s t) (p : Port) :
    (t.ports.get p).holdLimit = (s.ports.get p).holdLimit := by rw [same.ports]

theorem SameFrame.inFlight {s t : State} (same : SameFrame s t) : t.mem.inFlight = s.mem.inFlight := by rw [same.mem]

theorem SameFrame.retryLimit {s t : State} (same : SameFrame s t) : t.mem.retryLimit = s.mem.retryLimit := by rw [same.mem]

section Moves
variable {w : Work}

theorem frame_withPort (s : State) (p : Port) (x : PortState) : SameFrame s (s.withPort p x) := by
  refine ⟨rfl, rfl, rfl, rfl, rfl, rfl, fun q => ?_, rfl⟩
  cases p <;> cases q <;> rfl

theorem frame_withWaiting (s : State) (p : Port) (t : Option Transfer) : SameFrame s (s.withWaiting p t) :=
  ⟨rfl, rfl, rfl, rfl, rfl, rfl, fun _ => rfl, rfl⟩

theorem frame_claimChecked (s : State) (p : Port) (e : EntryIndex) : SameFrame s (s.claimChecked p e) := by
  rw [claimChecked_eq]
  exact ⟨rfl, rfl, rfl, rfl, rfl, rfl, fun _ => rfl, rfl⟩

theorem frame_left (s : State) (e : EntryIndex) : SameFrame s (s.left e) :=
  ⟨rfl, rfl, rfl, rfl, rfl, rfl, fun _ => rfl, rfl⟩

theorem frame_withSnaps (s : State) (p : Port) (l : List Snapshot) : SameFrame s (s.withSnaps p l) :=
  ⟨rfl, rfl, rfl, rfl, rfl, rfl, fun _ => rfl, rfl⟩

theorem frame_withRecs (s : State) (p : Port) (l : List OpenRecord) : SameFrame s (s.withRecs p l) :=
  ⟨rfl, rfl, rfl, rfl, rfl, rfl, fun _ => rfl, rfl⟩

theorem frame_withEntry (s : State) (e : EntryIndex) (x : Entry) : SameFrame s (s.withEntry e x) :=
  ⟨rfl, rfl, rfl, rfl, rfl, rfl, fun _ => rfl, rfl⟩

theorem frame_withClaim (s : State) (e : EntryIndex) (h : Option Port) : SameFrame s (s.withClaim e h) :=
  ⟨rfl, rfl, rfl, rfl, rfl, rfl, fun _ => rfl, rfl⟩

theorem frame_withQueue (s : State) (l : List CommitRecord) : SameFrame s (s.withQueue l) :=
  ⟨rfl, rfl, rfl, rfl, rfl, rfl, fun _ => rfl, rfl⟩

theorem frame_withWaitingCommit (s : State) (t : Option Transfer) : SameFrame s (s.withWaitingCommit t) :=
  ⟨rfl, rfl, rfl, rfl, rfl, rfl, fun _ => rfl, rfl⟩

theorem frame_onlyTable {s t : State} (only : OnlyTable s t) : SameFrame s t := by
  rw [← only]
  exact ⟨rfl, rfl, rfl, rfl, rfl, rfl, fun _ => rfl, rfl⟩

theorem frame_dropSnapshot (w : Work) (p : Port) (e : EntryIndex) : SameFrame w.s (w.dropSnapshot p e).s := by
  cases on : w.s.snapshotOn p e with
  | none =>
    rw [Work.dropSnapshot_none on]
    exact .refl _
  | some x =>
    rw [dropSnapshot_s on]
    exact ((frame_withSnaps _ _ _).trans (frame_withWaiting _ _ _)).trans (frame_left _ _)

theorem frame_dropRecord (w : Work) (p : Port) (e : EntryIndex) : SameFrame w.s (w.dropRecord p e).s := by
  cases on : w.s.recordOn p e with
  | none =>
    rw [Work.dropRecord_none on]
    exact .refl _
  | some x =>
    rw [dropRecord_s on]
    exact ((frame_withRecs _ _ _).trans (frame_claimChecked _ _ _)).trans (frame_left _ _)

theorem frame_openSnapshot (w : Work) (p : Port) (h : Held) (e : EntryIndex) (c : Content) :
    SameFrame w.s (w.openSnapshot p h e c).s := by
  rw [openSnapshot_s]
  exact (((frame_withSnaps _ _ _).trans (frame_withEntry _ _ _)).trans (frame_withWaiting _ _ _)).trans
    (frame_withPort _ _ _)

theorem frame_openRecord (w : Work) (p : Port) (e : EntryIndex) (c : Content) :
    SameFrame w.s (w.openRecord p e c).s := by
  rw [openRecord_s]
  exact ((frame_withRecs _ _ _).trans (frame_withEntry _ _ _)).trans (frame_withClaim _ _ _)

theorem frame_enqueue (w : Work) (r : CommitRecord) : SameFrame w.s (w.enqueue r).s := by
  rw [enqueue_s]
  split
  · exact (frame_withQueue _ _).trans (frame_withWaitingCommit _ _)
  · exact frame_withQueue _ _

theorem frame_commitDone (w : Work) : SameFrame w.s w.commitDone.s := by
  cases head : w.s.queue with
  | nil =>
    rw [commitDone_nil head]
    exact .refl _
  | cons r rest =>
    rw [commitDone_s head]
    exact ((((frame_withQueue _ _).trans (frame_withWaitingCommit _ _)).trans (frame_claimChecked _ _ _)).trans
      (frame_withEntry _ _ _)).trans (frame_left _ _)

theorem frame_commitFailed (w : Work) (n : Nat) : SameFrame w.s (w.commitFailed n).s := by
  cases head : w.s.queue with
  | nil =>
    rw [commitFailed_nil head]
    exact .refl _
  | cons r rest =>
    rw [commitFailed_s head]
    exact ⟨rfl, rfl, rfl, rfl, rfl, rfl, fun _ => rfl, rfl⟩

end Moves

/-- The moves of a classification leave the frame alone. -/
theorem frame_kept (s : State) : ClassifyKeeps (SameFrame s) fun _ => SameFrame s where
  choose _ _ same := same.trans ⟨rfl, rfl, rfl, rfl, rfl, rfl, fun _ => rfl, rfl⟩
  vacate w p _ same _ := same.trans ((frame_withPort w.s p .idle).trans (frame_withWaiting _ p none))
  occupy w p x same _ := same.trans (frame_withPort w.s p x)
  plain w p _ _ same := same.trans ((frame_withWaiting w.s p _).trans (frame_withPort _ p _))
  dropSnapshot w p e same := same.trans (frame_dropSnapshot w p e)
  dropSnapshotFree w p e same := same.trans (frame_dropSnapshot w p e)
  dropRecord w p e same := same.trans (frame_dropRecord w p e)
  openSnapshot w p h e c _ _ same _ _ _ := same.trans (frame_openSnapshot w p h e c)
  reopenSnapshot w p h e c _ _ _ same _ _ :=
    same.trans ((frame_dropSnapshot w p e).trans (frame_openSnapshot _ p h e c))
  retouchSnaps w p f same _ := same.trans (frame_withSnaps w.s p _)
  openRecord w p e c _ _ same _ _ _ _ := same.trans (frame_openRecord w p e c)
  reopenRecord w p e c _ _ _ same _ _ := by
    refine same.trans ((?_ : SameFrame w.s (Work.leave _ e).s).trans (frame_openRecord _ p e c))
    rw [leave_s]
    exact (frame_withRecs w.s p _).trans (frame_left _ e)
  retouchRecs w p f same _ := same.trans (frame_withRecs w.s p _)
  enqueue w p e bytes same _ :=
    (same.trans (frame_withRecs w.s p ((w.s.recs.get p).eraseP fun r => r.entry == e))).trans
      (frame_enqueue (w.setRecs p _) _)

theorem frame_settle (n : Nat) (w : Work) : SameFrame w.s (settle n w).s := (frame_kept w.s).settle n w (.refl _)

/-! ## What a command can change of the frame -/

/-- A kind of change of the frame that not every command makes. -/
inductive Change where
  | timebase | hold | retry | alert | ack | tick | memory | reset

/-- The settings that the taking of a link command can change. -/
def Command.changes : Command → List Change
  | .setTimebase => [.timebase]
  | .setHold => [.hold]
  | .setRetry => [.retry]
  | .setAlert => [.alert]
  | .ackEvents => [.ack]
  | _ => []

/-- The changes that a command of the model can make; a frame of raw bits can be any request. -/
def changesOf : Instr → List Change
  | .deviceReset => [.reset]
  | .tick => [.tick, .memory]
  | .memoryAnswerLimitExpiry => [.memory]
  | .memoryReadWord _ x => if x.requested then [.memory] else []
  | .memoryWriteAnswer x => if x.requested then [.memory] else []
  | .setTimebase _ _ => [.timebase]
  | .setHold _ _ => [.hold]
  | .setRetry _ _ => [.retry]
  | .setAlert _ _ => [.alert]
  | .ackEvents _ _ => [.ack]
  | .unknownCommand code _ _ => ((commandOfCode code).map Command.changes).getD []
  | .discardedFrame _ => [.timebase, .hold, .retry, .alert, .ack]
  | _ => []

/-! ## Ends of transfers leave the frame alone, the transfer apart -/

section Ends
variable (w : Work) (p : Port) (f : InFlight)

theorem frame_replyTransfer (r : Running) (ans : Answer) : SameFrame w.s (w.replyTransfer p r ans).s :=
  frame_withPort w.s p _

theorem frame_plainDone (d : Word) : SameFrame w.s (w.plainDone p f d).s := by
  unfold Work.plainDone
  split
  · exact .refl _
  · exact frame_replyTransfer w p _ _

theorem frame_plainFailed : SameFrame w.s (w.plainFailed p f).s := by
  unfold Work.plainFailed
  dsimp only
  split
  · exact .refl _
  · exact frame_replyTransfer (w.report _) p _ _

theorem frame_fillDone (e : EntryIndex) (data : List Word) : SameFrame w.s (w.fillDone p e f data).s := by
  unfold Work.fillDone
  split
  · exact .refl _
  · split
    · split
      · exact frame_replyTransfer w p _ _
      · dsimp only
        split
        · exact (frame_replyTransfer w p _ _).trans (frame_dropSnapshot _ p e)
        · exact (frame_replyTransfer w p _ _).trans (frame_withSnaps _ p _)
    · exact frame_replyTransfer w p _ _

theorem frame_fillFailed (a : ByteAddr) (e : EntryIndex) : SameFrame w.s (w.fillFailed p a e f).s := by
  unfold Work.fillFailed
  dsimp only
  split
  · exact .refl _
  · split
    · exact frame_replyTransfer (w.report _) p _ _
    · exact (frame_replyTransfer (w.report _) p _ _).trans (frame_dropSnapshot _ p e)

theorem frame_transferDone (words : List Word) : SameFrame (w.setInFlight none).s (w.transferDone f words).s := by
  have ended : SameFrame (w.setInFlight none).s ((w.setInFlight none).reportRecovered f).s := by
    rw [reportRecovered_s]
    exact .refl _
  unfold Work.transferDone
  dsimp only
  split
  · exact ended.trans (frame_plainDone _ _ f _)
  · exact ended.trans (frame_fillDone _ _ f _ _)
  · exact ended.trans (frame_commitDone _)

theorem frame_transferFailed : SameFrame (w.setInFlight none).s (w.transferFailed f).s := by
  unfold Work.transferFailed
  dsimp only
  split
  · exact frame_plainFailed _ _ f
  · exact frame_fillFailed _ _ f _ _
  · exact frame_commitFailed _ _

theorem frame_attemptFailed : ∃ g, SameFrame (w.setInFlight g).s (w.attemptFailed f).s := by
  unfold Work.attemptFailed
  split
  · exact ⟨_, .refl _⟩
  · exact ⟨none, frame_transferFailed w f⟩

theorem frame_takeWord (d : Word) (m : BitVec 2) : ∃ g, SameFrame (w.setInFlight g).s (w.takeWord f d m).s := by
  unfold Work.takeWord
  split
  · exact frame_attemptFailed w f
  · dsimp only
    split
    · exact ⟨none, frame_transferDone w f _⟩
    · exact ⟨_, .refl _⟩

theorem frame_takeAnswer (m : BitVec 2) : ∃ g, SameFrame (w.setInFlight g).s (w.takeAnswer f m).s := by
  unfold Work.takeAnswer
  split
  · exact ⟨none, frame_transferDone w f _⟩
  · exact frame_attemptFailed w f

/-- The expiry of any timer leaves the frame alone, the transfer in flight apart. -/
theorem frame_expire : ∀ d, ∃ g, SameFrame (w.setInFlight g).s (w.expire d).s := by
  have kept : ∀ v : Work, SameFrame w.s v.s → ∃ g, SameFrame (w.setInFlight g).s v.s :=
    fun v same => ⟨w.s.mem.inFlight, same⟩
  intro d
  cases d with
  | snapshot p e => exact kept _ ((frame_kept w.s).expireSnapshot (.refl _) p e)
  | record p e => exact kept _ ((frame_kept w.s).expireRecord (.refl _) p e)
  | hold p => exact kept _ ((frame_kept w.s).expireHold (.refl _) p)
  | answer =>
    change ∃ g, SameFrame _ w.expireAnswer.s
    unfold Work.expireAnswer
    split
    · split
      · exact frame_attemptFailed w _
      · exact kept _ (.refl _)
    · exact kept _ (.refl _)

end Ends

/-! ## What every command keeps of the frame -/

/-- Two states agree in the time base, the event queue, the commands that wait, the settings and the transfer in flight. -/
structure SameSettings (s t : State) : Prop where
  time : t.time = s.time
  events : t.events = s.events
  pending : t.pending = s.pending
  holdLimit : ∀ p, (t.ports.get p).holdLimit = (s.ports.get p).holdLimit
  retryLimit : t.mem.retryLimit = s.mem.retryLimit
  inFlight : t.mem.inFlight = s.mem.inFlight

theorem SameFrame.settings {s t : State} (same : SameFrame s t) : SameSettings s t :=
  ⟨same.time, same.events, same.pending, same.holdLimit, same.retryLimit, same.inFlight⟩

/-- What is kept of the frame by commands whose changes are allowed: `R` holds before a command, `M` in the middle of its
event, and `T` after it. -/
structure FrameKeeps (allowed : Change → Prop) (R M T : State → Prop) : Prop where
  begins : ∀ s, R s → M s
  same : ∀ s t, SameSettings s t → M s → M t
  enter : ∀ (s : State) (r : Report), M s → M { s with events := s.events.enter r }
  drive : ∀ s, M s → T s.drivePins
  past : ∀ s, R s → T s.pastTick
  grant : ∀ w : Work, M w.s → M w.grantNext.s
  orphan : ∀ (w : Work) (p : Port), M w.s → M (w.orphanTransfer p).s
  flight : allowed .memory → ∀ (w : Work) (f : Option InFlight), M w.s → M (w.setInFlight f).s
  timebase : allowed .timebase → ∀ (w : Work) (n : Nat), 10 ≤ n → n ≤ 200 → M w.s → M (w.setTime (w.s.time.set n)).s
  hold : allowed .hold → ∀ (w : Work) (n : Nat) (p : Port), 1 ≤ n → n ≤ 65535 → M w.s → M (w.setHoldLimit n p).s
  retry : allowed .retry → ∀ (w : Work) (n : Nat), n ≤ 7 → M w.s → M (w.setMem { w.s.mem with retryLimit := n }).s
  alert : allowed .alert → ∀ (w : Work) (n : Nat) (b : Bool), 1 ≤ n → n ≤ 32 → M w.s →
    M (w.setEvents { w.s.events with threshold := n, poisonAlert := b }).s
  ack : allowed .ack → ∀ (w : Work) (x : BitVec 16) (rest : List EventRecord),
    afterSequence x w.s.events.records = some rest → M w.s → M (w.setEvents { w.s.events with records := rest }).s
  reset : allowed .reset → ∀ s, R s → T s.deviceReset

theorem requested_of_attemptMet {s : State} {x : MemoryStrobe} {f : InFlight} (met : s.attemptMet x = some f) :
    x.requested = true := by
  unfold State.attemptMet at met
  split at met
  · assumption
  · contradiction

/-- A request that is taken has the first byte as its code (R189). -/
theorem code_of_judge {c code tag : Byte} {rest args : List Byte} {busy : Bool}
    (verdict : judge (c :: rest) busy = .taken code tag args) : code = c := by
  match rest with
  | [] => exact nomatch verdict
  | [_] => exact nomatch verdict
  | t :: len :: rest =>
    simp only [judge] at verdict
    repeat' split at verdict
    all_goals cases verdict
    rfl

/-- Two argument bytes are a 16-bit number. -/
theorem argPair_le (args : List Byte) (k : Nat) : argPair args k ≤ 65535 := by
  simp only [argPair, leValue]
  omega

section Frame
variable {allowed : Change → Prop} {R M T : State → Prop} (keeps : FrameKeeps allowed R M T)
include keeps

variable {w : Work} {s : State}

theorem FrameKeeps.enterReports (n : Nat) : ∀ (choices : Nat) (rs : List Report) (s : State), M s →
    M { s with events := (Machine.enterReports n choices rs s.events).1 } := by
  induction n with
  | zero => exact fun _ _ s held => held
  | succ n ih =>
    intro choices rs s held
    unfold Machine.enterReports
    split
    · exact held
    · exact ih _ _ { s with events := s.events.enter _ } (keeps.enter s _ held)

theorem FrameKeeps.close (held : M w.s) : T w.close :=
  keeps.drive _ (keeps.same { w.s with events := _ } _ ⟨rfl, rfl, rfl, fun _ => rfl, rfl, rfl⟩
    (keeps.enterReports _ _ _ _ held))

theorem FrameKeeps.finish (held : M w.s) : T w.finish :=
  keeps.close (keeps.same _ _ (frame_settle _ w).settings held)

/-- The end of an event whose transfer in flight memory or its answer limit has changed. -/
theorem FrameKeeps.finishFlight {v : Work} (free : allowed .memory) (held : M w.s)
    (ended : ∃ g, SameFrame (w.setInFlight g).s v.s) : T v.finish := by
  obtain ⟨g, ended⟩ := ended
  exact keeps.finish (keeps.same _ _ ended.settings (keeps.flight free w g held))

theorem FrameKeeps.setLink (held : M w.s) (l : Link) : M (w.setLink l).s :=
  keeps.same w.s _ ⟨rfl, rfl, rfl, fun _ => rfl, rfl, rfl⟩ held

theorem FrameKeeps.flushPorts (held : M w.s) (ps : List Port) : M (w.flushPorts ps).s := by
  have ended : M (ps.foldl Work.flushAccess w).s := by
    induction ps generalizing w with
    | nil => exact held
    | cons p ps ih =>
      refine ih (keeps.same w.s _ ?_ held)
      exact ((frame_withPort w.s p _).trans (frame_withWaiting _ p none)).settings
  unfold Work.flushPorts
  generalize ps.foldl Work.flushAccess w = v at ended
  induction ps generalizing v with
  | nil => exact ended
  | cons p ps ih => exact ih _ (keeps.same _ _ ((frame_kept v.s).discardAll (.refl _) p .flushed).settings ended)

theorem FrameKeeps.setHoldLimits (free : allowed .hold) {n : Nat} (low : 1 ≤ n) (high : n ≤ 65535) (held : M w.s)
    (ps : List Port) : M (ps.foldl (Work.setHoldLimit · n ·) w).s := by
  induction ps generalizing w with
  | nil => exact held
  | cons p ps ih => exact ih (keeps.hold free w n p low high held)

theorem FrameKeeps.takeCommand (held : M w.s) (args : List Byte) :
    ∀ cmd, (∀ x ∈ Command.changes cmd, allowed x) → M (w.takeCommand args cmd).1.s := by
  have edited : ∀ v : Work, OnlyTable w.s v.s → M v.s := fun v only => keeps.same _ _ (frame_onlyTable only).settings held
  intro cmd free
  cases cmd <;> dsimp only [Work.takeCommand]
  case readStatus => exact held
  case setTimebase =>
    unfold Work.takeSetTimebase
    dsimp only
    split
    · next range => exact keeps.timebase (free _ (by simp [Command.changes])) w _ range.1 range.2 held
    · exact held
  case setHold =>
    have free := free .hold (by simp [Command.changes])
    unfold Work.takeSetHold
    split
    · exact held
    · next ps _ =>
      split
      · next positive =>
        exact keeps.setHoldLimits free positive (argPair_le args 1) held ps
      · exact held
  case setRetry =>
    unfold Work.takeSetRetry
    dsimp only
    split
    · next range => exact keeps.retry (free _ (by simp [Command.changes])) w _ range held
    · exact held
  case setAlert =>
    unfold Work.takeSetAlert
    dsimp only
    split
    · next range => exact keeps.alert (free _ (by simp [Command.changes])) w _ _ range.1.1 range.1.2 held
    · exact held
  case writeEntry =>
    unfold Work.takeWriteEntry
    split
    · exact edited _ (editEntry_onlyTable w _ _)
    · exact held
  case deleteEntry =>
    unfold Work.takeDeleteEntry
    split
    · exact edited _ (deleteContent_onlyTable w _)
    · exact held
  case readEntry =>
    unfold Work.takeReadEntry
    split <;> exact held
  case clearPoison =>
    unfold Work.takeClearPoison
    split
    · exact edited _ (clearPoison_onlyTable w _)
    · exact held
  case peekEvents => exact held
  case ackEvents =>
    unfold Work.takeAckEvents
    split
    · next found => exact keeps.ack (free _ (by simp [Command.changes])) w _ _ found held
    · exact held
  case flush =>
    unfold Work.takeFlush
    split
    · exact keeps.flushPorts held _
    · exact held

theorem FrameKeeps.releaseSelect (held : R s) (bytes : List Byte)
    (free : ∀ code tag args, judge bytes s.link.imagePending = .taken code tag args →
      ∀ cmd, commandOfCode code = some cmd → ∀ x ∈ Command.changes cmd, allowed x) : T (s.releaseSelect bytes) := by
  have deselected : M s.begin.deselect.s := keeps.setLink (w := s.begin) (keeps.begins s held) _
  unfold State.releaseSelect
  split
  · exact keeps.close deselected
  · refine keeps.finish ?_
    cases verdict : judge bytes s.link.imagePending with
    | discarded cause => exact deselected
    | nop => exact deselected
    | taken code tag args =>
      have decided : M (s.begin.deselect.decideRequest code args).1.s := by
        unfold Work.decideRequest
        split
        · exact deselected
        · next cmd known =>
          split
          · exact keeps.takeCommand deselected args cmd (free code tag args verdict cmd known)
          · exact deselected
      exact keeps.setLink decided _

/-- A request row of the link acts as its own command and as no other. -/
theorem FrameKeeps.requestRow (held : R s) (code tag : Byte) (args : List Byte)
    (free : ∀ cmd, commandOfCode code = some cmd → ∀ x ∈ Command.changes cmd, allowed x) :
    T (s.releaseSelect (requestFrame code tag args)) := by
  refine keeps.releaseSelect held _ fun c t a verdict cmd known => free cmd ?_
  rw [← known, code_of_judge (rest := _) verdict]

/-- The frame of a command whose row spells its code. -/
theorem FrameKeeps.commandRow (held : R s) (cmd : Command) (tag : Byte) (args : List Byte)
    (free : ∀ x ∈ Command.changes cmd, allowed x) : T (s.releaseSelect (requestFrame (codeOfCommand cmd) tag args)) := by
  refine keeps.requestRow held _ tag args fun other known => ?_
  have same : commandOfCode (codeOfCommand cmd) = some cmd := by cases cmd <;> rfl
  rw [same] at known
  cases known
  exact free

/-- A frame of raw bits can be any request. -/
theorem FrameKeeps.rawFrame (held : R s) (bytes : List Byte)
    (free : ∀ x ∈ [Change.timebase, .hold, .retry, .alert, .ack], allowed x) : T (s.releaseSelect bytes) := by
  refine keeps.releaseSelect held _ fun _ _ _ _ cmd _ x among => free x ?_
  cases cmd <;> simp_all [Command.changes]

/-- Every command but TICK keeps what its changes allow. -/
theorem FrameKeeps.exec (held : R s) (i : Instr) (free : ∀ x ∈ changesOf i, allowed x) (other : i ≠ .tick) :
    ∃ t, Machine.exec i s = .next t ∧ T t := by
  have begun : M s.begin.s := keeps.begins s held
  have past : ∃ t, Host.Outcome.next (φ := Fault) (ρ := Refusal) s.pastTick = .next t ∧ T t :=
    ⟨_, rfl, keeps.past s held⟩
  have settings : ∀ t : State, SameSettings s t → M t := fun t same => keeps.same s t same begun
  have classified : ∀ w : Work, SameFrame s w.s → T w.finish := fun w same => keeps.finish (settings _ same.settings)
  have after : ∀ v w : Work, SameSettings s v.s → SameFrame v.s w.s → T w.finish :=
    fun v w same frame => keeps.finish (keeps.same v.s w.s frame.settings (settings _ same))
  have kept := frame_kept s
  cases i <;> dsimp only [Machine.exec]
  case deviceReset => exact ⟨_, rfl, keeps.reset (free _ (by simp [changesOf])) s held⟩
  case deviceResetRelease =>
    unfold execDeviceResetRelease
    split
    · exact ⟨_, rfl, keeps.drive _ (settings _ ⟨rfl, rfl, rfl, fun p => by cases p <;> rfl, rfl, rfl⟩)⟩
    · exact past
  case portReset p =>
    have line : SameSettings s (s.begin.setPort p (s.ports.get p).portReset).s :=
      ⟨rfl, rfl, rfl, fun q => by cases p <;> cases q <;> rfl, rfl, rfl⟩
    unfold execPortReset
    split
    · exact past
    · split
      · exact ⟨_, rfl, keeps.close (settings _ line)⟩
      · have ended := keeps.orphan _ p (settings _ line)
        have unasked := keeps.same _ _ (frame_withWaiting _ p none).settings ended
        exact ⟨_, rfl, keeps.finish (keeps.same _ _ ((frame_kept _).discardAll (.refl _) p .portReset).settings unasked)⟩
  case portResetRelease p =>
    unfold execPortResetRelease
    split
    · exact ⟨_, rfl, keeps.close (settings _ ⟨rfl, rfl, rfl, fun q => by cases p <;> cases q <;> rfl, rfl, rfl⟩)⟩
    · exact past
  case portAArrival selected strobes addr data =>
    have noted : SameSettings s (s.begin.strobeAsserted .a).s :=
      ⟨rfl, rfl, rfl, fun q => by cases q <;> rfl, rfl, rfl⟩
    have arrived : SameSettings s (s.begin.arrive .a).s := ⟨rfl, rfl, rfl, fun q => by cases q <;> rfl, rfl, rfl⟩
    unfold execPortAArrival
    dsimp only
    split
    · split
      · exact ⟨_, rfl, after _ _ arrived ((frame_kept _).reply (.refl _) (answerFits_error _))⟩
      · exact ⟨_, rfl, after _ _ arrived ((frame_kept _).classify (.refl _))⟩
      · exact ⟨_, rfl, after _ _ arrived ((frame_kept _).classify (.refl _))⟩
    · exact ⟨_, rfl, after _ _ noted (.refl _)⟩
  case portBArrival word isWrite enabled data =>
    have noted : SameSettings s (s.begin.strobeAsserted .b).s :=
      ⟨rfl, rfl, rfl, fun q => by cases q <;> rfl, rfl, rfl⟩
    have arrived : SameSettings s (s.begin.arrive .b).s := ⟨rfl, rfl, rfl, fun q => by cases q <;> rfl, rfl, rfl⟩
    unfold execPortBArrival
    dsimp only
    split
    · split
      · exact ⟨_, rfl, after _ _ arrived ((frame_kept _).reply (.refl _) (answerFits_ok _ _))⟩
      · exact ⟨_, rfl, after _ _ arrived ((frame_kept _).classify (.refl _))⟩
    · exact ⟨_, rfl, after _ _ noted (.refl _)⟩
  case strobeRelease sample =>
    refine ⟨_, rfl, after _ _ ⟨rfl, rfl, rfl, fun q => ?_, rfl, rfl⟩ (.refl _)⟩
    have limit : ∀ x : HostPort, (x.sampled sample s.inReset).holdLimit = x.holdLimit := fun x => by
      unfold HostPort.sampled
      split <;> rfl
    by_cases same : q = sampledPort sample
    · subst same
      exact (congrArg HostPort.holdLimit (PerPort.get_set_same s.ports _ _)).trans (limit _)
    · exact congrArg HostPort.holdLimit (PerPort.get_set_ne s.ports _ _ _ same)
  case tick => exact absurd rfl other
  case snapshotLimitExpiry p e => exact ⟨_, rfl, classified _ (kept.expireSnapshot (w := s.begin) (.refl _) p e)⟩
  case stagingLimitExpiry p e => exact ⟨_, rfl, classified _ (kept.expireRecord (w := s.begin) (.refl _) p e)⟩
  case holdLimitExpiry p => exact ⟨_, rfl, classified _ (kept.expireHold (w := s.begin) (.refl _) p)⟩
  case memoryAnswerLimitExpiry =>
    exact ⟨_, rfl, keeps.finishFlight (free _ (by simp [changesOf])) begun (frame_expire s.begin .answer)⟩
  case grant => exact ⟨_, rfl, keeps.finish (keeps.grant s.begin begun)⟩
  case memoryReadWord data strobe =>
    unfold execMemoryReadWord
    split
    · next f met =>
      split
      · exact ⟨_, rfl, keeps.finishFlight (free _ (by simp [changesOf, requested_of_attemptMet met])) begun
          (frame_takeWord s.begin f data strobe.mst)⟩
      · exact past
    · exact past
  case memoryWriteAnswer strobe =>
    unfold execMemoryWriteAnswer
    split
    · next f met =>
      split
      · exact past
      · exact ⟨_, rfl, keeps.finishFlight (free _ (by simp [changesOf, requested_of_attemptMet met])) begun
          (frame_takeAnswer s.begin f strobe.mst)⟩
    · exact past
  case mselnAssert =>
    unfold execMselnAssert
    split
    · exact ⟨_, rfl, keeps.close (keeps.setLink (w := s.begin) begun _)⟩
    · exact past
  case requestCompletion => exact ⟨_, rfl, keeps.close (keeps.setLink (w := s.begin) begun _)⟩
  case discardedFrame mdi =>
    unfold execDiscardedFrame
    split
    · exact ⟨_, rfl, keeps.close (keeps.setLink (w := s.begin) begun _)⟩
    · exact ⟨_, rfl, keeps.rawFrame held _ free⟩
  case unknownCommand code tag args =>
    refine ⟨_, rfl, keeps.requestRow held code tag args fun cmd known x among => free x ?_⟩
    simpa [changesOf, known] using among
  case nop tag args => exact ⟨_, rfl, keeps.requestRow held 0 tag args fun cmd known => nomatch known⟩
  case readStatus tag args => exact ⟨_, rfl, keeps.commandRow held .readStatus tag args free⟩
  case setTimebase tag args => exact ⟨_, rfl, keeps.commandRow held .setTimebase tag args free⟩
  case setHold tag args => exact ⟨_, rfl, keeps.commandRow held .setHold tag args free⟩
  case setRetry tag args => exact ⟨_, rfl, keeps.commandRow held .setRetry tag args free⟩
  case setAlert tag args => exact ⟨_, rfl, keeps.commandRow held .setAlert tag args free⟩
  case writeEntry tag args => exact ⟨_, rfl, keeps.commandRow held .writeEntry tag args free⟩
  case deleteEntry tag args => exact ⟨_, rfl, keeps.commandRow held .deleteEntry tag args free⟩
  case readEntry tag args => exact ⟨_, rfl, keeps.commandRow held .readEntry tag args free⟩
  case clearPoison tag args => exact ⟨_, rfl, keeps.commandRow held .clearPoison tag args free⟩
  case peekEvents tag args => exact ⟨_, rfl, keeps.commandRow held .peekEvents tag args free⟩
  case ackEvents tag args => exact ⟨_, rfl, keeps.commandRow held .ackEvents tag args free⟩
  case flush tag args => exact ⟨_, rfl, keeps.commandRow held .flush tag args free⟩

end Frame

section Tick
variable {allowed : Change → Prop} {R M : State → Prop} (keeps : FrameKeeps allowed R M R)
include keeps

/-- What every expiry keeps, a tick keeps that the counting of a tick keeps. -/
theorem FrameKeeps.tick (free : allowed .memory) (choose : ∀ (s : State) (n : Nat), R s → R { s with choices := n })
    (count : ∀ s, R s → R s.countTick) {s : State} (held : R s) : ∃ t, Machine.exec .tick s = .next t ∧ R t := by
  have expired : ∀ n (s : State), R s → R (State.expireOverdue n s) := by
    intro n
    induction n with
    | zero => exact fun s held => held
    | succ n ih =>
      intro s held
      unfold State.expireOverdue
      split
      · exact held
      · exact ih _ (keeps.finishFlight (w := State.begin _) free (keeps.begins _ (choose s _ held)) (frame_expire _ _))
  dsimp only [Machine.exec]
  unfold execTick
  split
  · exact ⟨s, rfl, held⟩
  · exact ⟨_, rfl, count _ (expired _ s held)⟩

end Tick

end Sys2Proof.Machine
end

section
/-! PROOFS. The event queue, the settings, the answers and the pins in every step (R38, R121, R122, R154, R158, R178), and
the statements O57, O2, O38 and O47. -/

namespace Sys2Proof.Machine

open Sys2Proof

/-! ## Steps -/

/-- What every command, every period of CLK and the taking of a command off the queue keep, a step keeps. -/
theorem FrameKeeps.step {R M : State → Prop} (keeps : FrameKeeps (fun _ => True) R M R)
    (choose : ∀ (s : State) (n : Nat), R s → R { s with choices := n }) (count : ∀ s, R s → R s.countTick)
    (period : ∀ s, R s → R s.clockPeriod) (taken : ∀ (s : State) (l : List Instr), R s → R { s with pending := l })
    {s t : State} (held : R s) (stepped : Machine.step s = .next t) : R t := by
  unfold Machine.step at stepped
  split at stepped
  · cases stepped
    exact period s held
  · next i rest _ =>
    have after : ∃ u, Machine.exec i { s with pending := rest } = .next u ∧ R u := by
      by_cases tick : i = .tick
      · rw [tick]
        exact keeps.tick trivial choose count (taken s rest held)
      · exact keeps.exec (taken s rest held) i (fun _ _ => trivial) tick
    obtain ⟨u, done, kept⟩ := after
    rw [done] at stepped
    cases stepped
    exact kept

/-- A grant puts a transfer in flight where none is, and touches no setting. -/
theorem grantNext_settings (w : Work) :
    ∃ f, SameSettings (w.setInFlight f).s w.grantNext.s ∧ (w.s.mem.inFlight ≠ none → f = w.s.mem.inFlight) := by
  rcases grantNext_cases w with k | ⟨r, t, landed, next, k⟩ <;> rw [k]
  · exact ⟨w.s.mem.inFlight, ⟨rfl, rfl, rfl, fun _ => rfl, rfl, rfl⟩, fun _ => rfl⟩
  · refine ⟨some (t.granted w.s.mem.retryLimit), ?_, fun busy => absurd landed busy⟩
    cases r with
    | commit => exact ⟨rfl, rfl, rfl, fun _ => rfl, rfl, rfl⟩
    | port p => exact ⟨rfl, rfl, rfl, fun q => by cases p <;> cases q <;> rfl, rfl, rfl⟩

/-! ## The event queue (R154, R157, R158) -/

theorem consecutive_append {l : List EventRecord} {n : BitVec 16} {r : EventRecord} (here : consecutive n l)
    (sequence : r.sequence = n) : consecutive (n + 1) (l ++ [r]) := by
  induction l with
  | nil => exact ⟨by rw [sequence]; rfl, trivial⟩
  | cons x xs ih =>
    obtain ⟨first, rest⟩ := here
    refine ⟨?_, ih rest⟩
    rw [first]
    cases xs with
    | nil => exact sequence.symm
    | cons y ys => rfl

theorem sound_enter {q : EventQueue} (sound : q.sound) (r : Report) : (q.enter r).sound := by
  obtain ⟨room, run, drops⟩ := sound
  unfold EventQueue.enter
  split
  · next space =>
    refine ⟨?_, consecutive_append run rfl, Nat.zero_le _⟩
    rw [List.length_append]
    exact space
  · exact ⟨room, run, Nat.min_le_right _ _⟩

theorem sound_afterSequence {x n : BitVec 16} {l rest : List EventRecord} (left : afterSequence x l = some rest)
    (run : consecutive n l) : rest.length ≤ l.length ∧ consecutive n rest := by
  induction l with
  | nil => contradiction
  | cons r rs ih =>
    obtain ⟨-, run⟩ := run
    unfold afterSequence at left
    split at left
    · cases left
      exact ⟨Nat.le_succ _, run⟩
    · obtain ⟨shorter, run⟩ := ih left run
      exact ⟨Nat.le_succ_of_le shorter, run⟩

/-- Every command keeps the event queue sound. -/
theorem eventsSound_kept : FrameKeeps (fun _ => True) (fun s => s.events.sound) (fun s => s.events.sound)
    (fun s => s.events.sound) where
  begins _ sound := sound
  same s t same sound := by
    rw [same.events]
    exact sound
  enter _ r sound := sound_enter sound r
  drive _ sound := sound
  past _ sound := sound
  grant w sound := by
    obtain ⟨f, same, -⟩ := grantNext_settings w
    rw [same.events]
    exact sound
  orphan w p sound := by
    rw [orphanTransfer_eq]
    exact sound
  flight _ _ _ sound := sound
  timebase _ _ _ _ _ sound := sound
  hold _ _ _ _ _ _ sound := sound
  retry _ _ _ _ sound := sound
  alert _ _ _ _ _ _ sound := sound
  ack _ w x rest left sound := by
    obtain ⟨room, run, drops⟩ := sound
    obtain ⟨shorter, run⟩ := sound_afterSequence left run
    exact ⟨Nat.le_trans shorter room, run, drops⟩
  reset _ _ _ := ⟨Nat.zero_le _, trivial, Nat.zero_le _⟩

/-! ## Settings (R178) -/

theorem settingsLegal_of_same {s t : State} (legal : s.settingsLegal) (time : t.time = s.time)
    (holdLimit : ∀ p, (t.ports.get p).holdLimit = (s.ports.get p).holdLimit)
    (retryLimit : t.mem.retryLimit = s.mem.retryLimit) (threshold : t.events.threshold = s.events.threshold) :
    t.settingsLegal := by
  unfold State.settingsLegal
  rw [time, retryLimit, threshold]
  simp only [holdLimit]
  exact legal

theorem settingsLegal_pastTick {s : State} (legal : s.settingsLegal) : s.pastTick.settingsLegal := by
  obtain ⟨setting, underWay, count, -, rest⟩ := legal
  exact ⟨setting, underWay, count, nofun, rest⟩

@[simp] theorem enter_threshold (q : EventQueue) (r : Report) :
    (q.enter r).threshold = q.threshold ∧ (q.enter r).poisonAlert = q.poisonAlert := by
  unfold EventQueue.enter
  split <;> exact ⟨rfl, rfl⟩

theorem settingsLegal_countTick {s : State} (legal : s.settingsLegal) : s.countTick.settingsLegal := by
  obtain ⟨setting, underWay, count, -, holds, rest⟩ := legal
  refine ⟨setting, setting, Nat.zero_le _, fun _ => rfl, fun p => ?_, rest⟩
  cases p
  · exact holds .a
  · exact holds .b

/-- Every command keeps every setting in its range. -/
theorem settingsLegal_kept : FrameKeeps (fun _ => True) State.settingsLegal State.settingsLegal State.settingsLegal where
  begins _ legal := legal
  same _ _ same legal := settingsLegal_of_same legal same.time same.holdLimit same.retryLimit (by rw [same.events])
  enter _ r legal := settingsLegal_of_same legal rfl (fun _ => rfl) rfl (enter_threshold _ r).1
  drive _ legal := settingsLegal_pastTick legal
  past _ legal := settingsLegal_pastTick legal
  grant w legal := by
    obtain ⟨f, same, -⟩ := grantNext_settings w
    exact settingsLegal_of_same legal same.time same.holdLimit same.retryLimit (by rw [same.events]; rfl)
  orphan w p legal := by
    rw [orphanTransfer_eq]
    exact legal
  flight _ _ _ legal := legal
  timebase _ w n low high legal := by
    obtain ⟨-, underWay, count, fresh, rest⟩ := legal
    cases ticked : w.s.time.ticked with
    | false =>
      refine ⟨⟨low, high⟩, ?_, ?_, fresh, rest⟩ <;> simp only [Work.setTime, TimeBase.set, ticked]
      · exact underWay
      · exact count
    | true =>
      refine ⟨⟨low, high⟩, ?_, ?_, fresh, rest⟩ <;> simp only [Work.setTime, TimeBase.set, ticked]
      · exact ⟨low, high⟩
      · simp [fresh ticked]
  hold _ w n p low high legal := by
    obtain ⟨setting, underWay, count, fresh, holds, rest⟩ := legal
    refine ⟨setting, underWay, count, fresh, fun q => ?_, rest⟩
    by_cases same : q = p
    · subst same
      simp only [Work.setHoldLimit, Work.setPort, PerPort.get_set_same]
      exact ⟨low, high⟩
    · simp only [Work.setHoldLimit, Work.setPort, PerPort.get_set_ne _ _ _ _ same]
      exact holds q
  retry _ _ _ low legal := by
    obtain ⟨setting, underWay, count, fresh, holds, -, alert⟩ := legal
    exact ⟨setting, underWay, count, fresh, holds, low, alert⟩
  alert _ _ _ _ low high legal := by
    obtain ⟨setting, underWay, count, fresh, holds, retry, -⟩ := legal
    exact ⟨setting, underWay, count, fresh, holds, retry, low, high⟩
  ack _ _ _ _ _ legal := legal
  reset _ s _ := by
    have limits : ∀ p, (s.deviceReset.ports.get p).holdLimit = 2000 := fun p => by cases p <;> rfl
    have defaults : (10 ≤ 50 ∧ 50 ≤ 200) ∧ 0 ≤ 50 ∧ (1 ≤ 2000 ∧ 2000 ≤ 65535) ∧ 3 ≤ 7 ∧ 1 ≤ 16 ∧ 16 ≤ 32 := by decide
    obtain ⟨base, count, hold, retry, alert⟩ := defaults
    exact ⟨base, base, count, nofun, fun p => (limits p).symm ▸ hold, retry, alert⟩

theorem settingsLegal_clockPeriod {s : State} (legal : s.settingsLegal) : s.clockPeriod.settingsLegal := by
  rcases s.clockPeriod_cases with k | ⟨room, k⟩ <;> rw [k]
  · exact settingsLegal_pastTick legal
  · obtain ⟨setting, underWay, count, -, rest⟩ := legal
    exact ⟨setting, underWay, room, nofun, rest⟩

/-! ## Pins (R96, R117, R163, R168) -/

/-- A tick is counted by timers, which no pin shows. -/
theorem pinLevels_countTick (s : State) : s.countTick.pinLevels = s.pinLevels := by
  have portA : portAPins s.ports.a.state.tick = portAPins s.ports.a.state := by cases s.ports.a.state <;> rfl
  have portB : portBPins s.ports.b.state.tick = portBPins s.ports.b.state := by cases s.ports.b.state <;> rfl
  have memory : memoryPins (s.mem.inFlight.map fun f => { f with timer := f.timer.tick }) = memoryPins s.mem.inFlight := by
    cases s.mem.inFlight <;> rfl
  unfold State.pinLevels
  congr 1

/-- Every command leaves the pins driven. -/
theorem pinsDriven_kept : FrameKeeps (fun _ => True) State.pinsDriven (fun _ => True) State.pinsDriven where
  begins _ _ := trivial
  same _ _ _ _ := trivial
  enter _ _ _ := trivial
  drive _ _ := rfl
  past _ driven := driven
  grant _ _ := trivial
  orphan _ _ _ := trivial
  flight _ _ _ _ := trivial
  timebase _ _ _ _ _ _ := trivial
  hold _ _ _ _ _ _ _ := trivial
  retry _ _ _ _ _ := trivial
  alert _ _ _ _ _ _ _ := trivial
  ack _ _ _ _ _ _ := trivial
  reset _ _ _ := rfl

theorem pinsDriven_clockPeriod {s : State} (driven : s.pinsDriven) : s.clockPeriod.pinsDriven := by
  rcases s.clockPeriod_cases with k | ⟨-, k⟩ <;> rw [k] <;> exact driven

/-! ## The commands that wait (log 2) -/

/-- Every command leaves the queue of commands alone. -/
theorem pending_kept (l : List Instr) :
    FrameKeeps (fun _ => True) (fun s => s.pending = l) (fun s => s.pending = l) (fun s => s.pending = l) where
  begins _ waits := waits
  same _ _ same waits := same.pending.trans waits
  enter _ _ waits := waits
  drive _ waits := waits
  past _ waits := waits
  grant w waits := by
    obtain ⟨f, same, -⟩ := grantNext_settings w
    exact same.pending.trans waits
  orphan w p waits := by
    rw [orphanTransfer_eq]
    exact waits
  flight _ _ _ waits := waits
  timebase _ _ _ _ _ waits := waits
  hold _ _ _ _ _ _ waits := waits
  retry _ _ _ _ waits := waits
  alert _ _ _ _ _ _ waits := waits
  ack _ _ _ _ _ waits := waits
  reset _ _ waits := waits

/-! ## The transfer in flight (R102, R115) -/

/-- The transfer in flight is `f`, ended access or not. -/
def Flies (f : InFlight) (s : State) : Prop :=
  ∃ g, s.mem.inFlight = some g ∧ g.transfer = f.transfer ∧ g.allowance = f.allowance ∧ g.attempts = f.attempts
    ∧ g.taken = f.taken ∧ g.timer = f.timer

/-- A command that neither brings an answer of memory or its limit nor counts a tick leaves the transfer in flight. -/
theorem flies_kept (f : InFlight) :
    FrameKeeps (fun x => x ≠ .memory ∧ x ≠ .reset) (Flies f) (Flies f) (Flies f) where
  begins _ flies := flies
  same s t same flies := by
    unfold Flies
    rw [same.inFlight]
    exact flies
  enter _ _ flies := flies
  drive _ flies := flies
  past _ flies := flies
  grant w flies := by
    obtain ⟨g, flying, same⟩ := flies
    rcases grantNext_cases w with k | ⟨r, t, landed, -⟩
    · rw [k]
      exact ⟨g, flying, same⟩
    · rw [landed] at flying
      contradiction
  orphan w p flies := by
    obtain ⟨g, flying, same⟩ := flies
    rw [orphanTransfer_eq, flying]
    refine ⟨_, rfl, ?_⟩
    dsimp only
    split <;> exact same
  flight free := absurd rfl free.1
  timebase _ _ _ _ _ flies := flies
  hold _ _ _ _ _ _ flies := flies
  retry _ _ _ _ flies := flies
  alert _ _ _ _ _ _ flies := flies
  ack _ _ _ _ _ flies := flies
  reset free := absurd rfl free.2

/-! ## Settings and the period under way, kept by every command that does not write them (R39, R178) -/

/-- A state has the settings of another, but for those that are allowed to change. -/
structure KeepsSettings (allowed : Change → Prop) (s t : State) : Prop where
  timebase : ¬allowed .timebase → t.time.setting = s.time.setting
  hold : ¬allowed .hold → ∀ p, (t.ports.get p).holdLimit = (s.ports.get p).holdLimit
  retry : ¬allowed .retry → t.mem.retryLimit = s.mem.retryLimit
  alert : ¬allowed .alert → t.events.threshold = s.events.threshold ∧ t.events.poisonAlert = s.events.poisonAlert

theorem KeepsSettings.of_same {allowed : Change → Prop} {s t u : State} (keeps : KeepsSettings allowed s t)
    (setting : u.time.setting = t.time.setting) (holdLimit : ∀ p, (u.ports.get p).holdLimit = (t.ports.get p).holdLimit)
    (retryLimit : u.mem.retryLimit = t.mem.retryLimit)
    (alert : u.events.threshold = t.events.threshold ∧ u.events.poisonAlert = t.events.poisonAlert) :
    KeepsSettings allowed s u where
  timebase kept := setting.trans (keeps.timebase kept)
  hold kept p := (holdLimit p).trans (keeps.hold kept p)
  retry kept := retryLimit.trans (keeps.retry kept)
  alert kept := ⟨alert.1.trans (keeps.alert kept).1, alert.2.trans (keeps.alert kept).2⟩

/-- A command keeps every setting that it is not allowed to write. -/
theorem keepsSettings_kept {allowed : Change → Prop} (noReset : ¬allowed .reset) (s₀ : State) :
    FrameKeeps allowed (KeepsSettings allowed s₀) (KeepsSettings allowed s₀) (KeepsSettings allowed s₀) where
  begins _ keeps := keeps
  same _ _ same keeps :=
    keeps.of_same (by rw [same.time]) same.holdLimit same.retryLimit (by rw [same.events]; exact ⟨rfl, rfl⟩)
  enter _ r keeps := keeps.of_same rfl (fun _ => rfl) rfl (enter_threshold _ r)
  drive _ keeps := keeps.of_same rfl (fun _ => rfl) rfl ⟨rfl, rfl⟩
  past _ keeps := keeps.of_same rfl (fun _ => rfl) rfl ⟨rfl, rfl⟩
  grant w keeps := by
    obtain ⟨f, same, -⟩ := grantNext_settings w
    exact keeps.of_same (by rw [same.time]; rfl) same.holdLimit same.retryLimit (by rw [same.events]; exact ⟨rfl, rfl⟩)
  orphan w p keeps := by
    rw [orphanTransfer_eq]
    exact keeps.of_same rfl (fun _ => rfl) rfl ⟨rfl, rfl⟩
  flight _ _ _ keeps := keeps.of_same rfl (fun _ => rfl) rfl ⟨rfl, rfl⟩
  timebase free _ _ _ _ keeps := ⟨fun kept => absurd free kept, keeps.hold, keeps.retry, keeps.alert⟩
  hold free _ _ _ _ _ keeps := ⟨keeps.timebase, fun kept => absurd free kept, keeps.retry, keeps.alert⟩
  retry free _ _ _ keeps := ⟨keeps.timebase, keeps.hold, fun kept => absurd free kept, keeps.alert⟩
  alert free _ _ _ _ _ keeps := ⟨keeps.timebase, keeps.hold, keeps.retry, fun kept => absurd free kept⟩
  ack _ _ _ _ _ keeps := keeps.of_same rfl (fun _ => rfl) rfl ⟨rfl, rfl⟩
  reset free := absurd free noReset

/-- The period under way has the count of periods of CLK it had, and the setting unless a new one may reach it. -/
structure KeepsPeriod (allowed : Change → Prop) (s t : State) : Prop where
  count : t.time.count = s.time.count
  underWay : ¬allowed .timebase → t.time.underWay = s.time.underWay

/-- A command that is neither TICK nor a device reset keeps the period under way, and is past a tick. -/
theorem keepsPeriod_kept {allowed : Change → Prop} (noReset : ¬allowed .reset) (s₀ : State) :
    FrameKeeps allowed (KeepsPeriod allowed s₀) (KeepsPeriod allowed s₀)
      fun t => KeepsPeriod allowed s₀ t ∧ t.time.ticked = false where
  begins _ keeps := keeps
  same _ _ same keeps := ⟨by rw [same.time]; exact keeps.count, by rw [same.time]; exact keeps.underWay⟩
  enter _ _ keeps := ⟨keeps.count, keeps.underWay⟩
  drive _ keeps := ⟨⟨keeps.count, keeps.underWay⟩, rfl⟩
  past _ keeps := ⟨⟨keeps.count, keeps.underWay⟩, rfl⟩
  grant w keeps := by
    obtain ⟨f, same, -⟩ := grantNext_settings w
    exact ⟨by rw [same.time]; exact keeps.count, by rw [same.time]; exact keeps.underWay⟩
  orphan w p keeps := by
    rw [orphanTransfer_eq]
    exact ⟨keeps.count, keeps.underWay⟩
  flight _ _ _ keeps := ⟨keeps.count, keeps.underWay⟩
  timebase free _ _ _ _ keeps := ⟨keeps.count, fun kept => absurd free kept⟩
  hold _ _ _ _ _ _ keeps := ⟨keeps.count, keeps.underWay⟩
  retry _ _ _ _ keeps := ⟨keeps.count, keeps.underWay⟩
  alert _ _ _ _ _ _ keeps := ⟨keeps.count, keeps.underWay⟩
  ack _ _ _ _ _ keeps := ⟨keeps.count, keeps.underWay⟩
  reset free := absurd free noReset

/-- Among the well-formed commands that are not frames of raw bits, only the settings commands write settings. -/
theorem setting_of_changes {i : Instr} (wf : i.wellFormed = true) (framed : ∀ mdi, i ≠ .discardedFrame mdi) :
    (Change.timebase ∈ changesOf i → ∃ tag args, i = .setTimebase tag args)
      ∧ (Change.hold ∈ changesOf i → ∃ tag args, i = .setHold tag args)
      ∧ (Change.retry ∈ changesOf i → ∃ tag args, i = .setRetry tag args)
      ∧ (Change.alert ∈ changesOf i → ∃ tag args, i = .setAlert tag args) := by
  cases i
  case discardedFrame mdi => exact absurd rfl (framed mdi)
  case unknownCommand code tag args =>
    have unknown : commandOfCode code = none := by simp_all [Instr.wellFormed]
    simp [changesOf, unknown]
  case memoryReadWord data x => cases h : x.requested <;> simp [changesOf, h]
  case memoryWriteAnswer x => cases h : x.requested <;> simp [changesOf, h]
  all_goals simp [changesOf]

theorem memory_of_changes {i : Instr} (noWord : ∀ data mst, i ≠ .memoryReadWord data ⟨true, mst⟩)
    (noAnswer : ∀ mst, i ≠ .memoryWriteAnswer ⟨true, mst⟩) (noLimit : i ≠ .memoryAnswerLimitExpiry) (noTick : i ≠ .tick) :
    Change.memory ∉ changesOf i := by
  cases i
  case tick => exact absurd rfl noTick
  case memoryAnswerLimitExpiry => exact absurd rfl noLimit
  case memoryReadWord data x =>
    obtain ⟨requested, mst⟩ := x
    cases requested with
    | true => exact absurd rfl (noWord data mst)
    | false => simp [changesOf]
  case memoryWriteAnswer x =>
    obtain ⟨requested, mst⟩ := x
    cases requested with
    | true => exact absurd rfl (noAnswer mst)
    | false => simp [changesOf]
  case unknownCommand code tag args =>
    cases known : commandOfCode code with
    | none => simp [changesOf, known]
    | some cmd => cases cmd <;> simp [changesOf, known, Command.changes]
  all_goals simp [changesOf]

theorem reset_of_changes {i : Instr} (other : i ≠ .deviceReset) : Change.reset ∉ changesOf i := by
  cases i
  case deviceReset => exact absurd rfl other
  case unknownCommand code tag args =>
    cases known : commandOfCode code with
    | none => simp [changesOf, known]
    | some cmd => cases cmd <;> simp [changesOf, known, Command.changes]
  case memoryReadWord data x => cases h : x.requested <;> simp [changesOf, h]
  case memoryWriteAnswer x => cases h : x.requested <;> simp [changesOf, h]
  all_goals simp [changesOf]

/-! ## Answers (R121, R122) -/

/-- The answer a port stands with fits its access. -/
def AnswersFit (s : State) : Prop := ∀ p a ans, (s.ports.get p).state = .answered a ans → AnswerFits a ans

theorem AnswersFit.of_ports {s t : State} (fits : AnswersFit s) (ports : t.ports = s.ports) : AnswersFit t := by
  intro p a ans state
  rw [ports] at state
  exact fits p a ans state

/-- One port replaced by one whose answer, if it stands with one, fits. -/
theorem AnswersFit.update {s t : State} (fits : AnswersFit s) {p : Port} {x : HostPort} (ports : t.ports = s.ports.set p x)
    (fresh : ∀ a ans, x.state = .answered a ans → AnswerFits a ans) : AnswersFit t := by
  intro q a ans state
  rw [ports] at state
  by_cases same : q = p
  · subst same
    rw [PerPort.get_set_same] at state
    exact fresh a ans state
  · rw [PerPort.get_set_ne _ _ _ _ same] at state
    exact fits q a ans state

theorem fits_of_settles {x : PortState} (settles : PortSettles x) : ∀ a ans, x = .answered a ans → AnswerFits a ans := by
  rintro a ans rfl
  exact settles

theorem afterRelease_answered {sample : StrobeSample} {x : PortState} {a : Access} {ans : Answer}
    (after : x.afterRelease sample = .answered a ans) : x = .answered a ans := by
  cases x with
  | answered b other =>
    dsimp only [PortState.afterRelease] at after
    split at after
    · contradiction
    · exact after
  | _ => contradiction

theorem tick_answered {x : PortState} {a : Access} {ans : Answer} (after : x.tick = .answered a ans) :
    x = .answered a ans := by
  cases x with
  | answered _ _ => exact after
  | _ => contradiction

/-- Every command leaves answers that fit. -/
theorem answersFit_kept : StepKeeps AnswersFit fun _ => AnswersFit where
  choose _ _ fits := fits.of_ports rfl
  vacate _ p _ fits _ := fits.update (p := p) rfl nofun
  occupy _ p _ fits settles := fits.update (p := p) rfl (fits_of_settles settles)
  plain _ p _ _ fits := fits.update (p := p) rfl nofun
  dropSnapshot w p e fits := fits.of_ports (dropSnapshot_asks w p e).1
  dropSnapshotFree w p e fits := fits.of_ports (dropSnapshot_asks w p e).1
  dropRecord w p e fits := fits.of_ports (dropRecord_asks w p e).1
  openSnapshot w p h e c _ _ fits _ _ _ := by
    rw [openSnapshot_s]
    exact fits.update (p := p) rfl nofun
  reopenSnapshot w p h e c _ _ _ fits _ _ := by
    rw [openSnapshot_s]
    exact AnswersFit.update (fits.of_ports (dropSnapshot_asks w p e).1) (p := p) rfl nofun
  retouchSnaps _ _ _ fits _ := fits.of_ports rfl
  openRecord _ _ _ _ _ _ fits _ _ _ _ := by
    rw [openRecord_s]
    exact fits.of_ports rfl
  reopenRecord _ _ _ _ _ _ _ fits _ _ := by
    rw [openRecord_s, leave_s]
    exact fits.of_ports rfl
  retouchRecs _ _ _ fits _ := fits.of_ports rfl
  enqueue _ _ _ _ fits _ := by
    rw [enqueue_s]
    split <;> exact fits.of_ports rfl
  core _ _ same fits := fits.of_ports same.ports
  arrive s p fits taken := fits.update (p := p) rfl fun a ans state => fits p a ans state
  notes w p x fits notes := fits.update (p := p) rfl fun a ans state => by
    rcases notes.state with same | ⟨sample, after⟩
    · exact fits p a ans (same ▸ state)
    · exact fits p a ans (afterRelease_answered (after ▸ state))
  retry _ _ fits := fits.of_ports rfl
  retouchFlight _ _ _ fits _ _ := fits.of_ports rfl
  endFlight _ _ fits _ _ := fits.of_ports rfl
  answerRunning _ p _ _ fits _ settles := fits.update (p := p) rfl (fits_of_settles settles)
  commitDone v w _ fits _ _ ended := by
    refine AnswersFit.of_ports fits ((commitDone_asks w).1.trans ?_)
    rw [ended]
    rfl
  commitFailed v w _ fits _ _ ended := by
    refine AnswersFit.of_ports fits ((commitFailed_asks w _).1.trans ?_)
    rw [ended]
    rfl
  grantNext w fits := by
    rcases grantNext_cases w with k | ⟨r, t, -, -, k⟩ <;> rw [k]
    · exact fits
    · cases r with
      | commit => exact fits.of_ports rfl
      | port p =>
        refine fits.update (p := p) rfl fun a ans state => fits p a ans ?_
        cases before : (w.s.ports.get p).state <;> simp [before, PortState.afterGrant] at state ⊢
        exact state
  portReset s p fits := by
    rw [orphanTransfer_eq]
    exact fits.update (p := p) rfl nofun
  portResetInReset _ p fits _ := fits.update (p := p) rfl nofun
  portRelease _ p fits _ := fits.update (p := p) rfl nofun
  flushAccess w p fits := fits.update (p := p) rfl fun a ans state => by
    cases before : (w.s.ports.get p).state with
    | held h =>
      exact fits_of_settles (portSettles_answered h.released (answerFits_error h.access)) a ans (by
        rw [← state, before]
        rfl)
    | answered b given =>
      rw [before] at state
      exact fits p a ans (before.trans state)
    | _ =>
      rw [before] at state
      contradiction
  editEntry w e c fits := by
    rw [← editEntry_onlyTable w e c]
    exact fits.of_ports rfl
  deleteContent w e fits := by
    rw [← deleteContent_onlyTable w e]
    exact fits.of_ports rfl
  clearPoison w e fits := by
    rw [← clearPoison_onlyTable w e]
    exact fits.of_ports rfl
  deviceReset s := by
    intro p a ans
    have quiet : ∀ x : HostPort, x.deviceReset.state ≠ .answered a ans := fun x => by
      cases h : x.resetLow <;> simp [HostPort.deviceReset, h]
    cases p <;> exact fun state => absurd state (quiet _)
  deviceRelease s fits _ := by
    intro p a ans
    have quiet : ∀ x : HostPort, x.deviceRelease.state ≠ .answered a ans := fun x => by
      cases h : x.resetLow <;> simp [HostPort.deviceRelease, h]
    cases p <;> exact fun state => absurd state (quiet _)
  countTick s fits := by
    intro p a ans state
    cases p
    · exact fits .a a ans (tick_answered state)
    · exact fits .b a ans (tick_answered state)

end Sys2Proof.Machine

namespace Sys2Proof.Proofs

open Sys2Proof Sys2Proof.Machine

/-- Settles O57: the queue's entries and acknowledgements keep its sequence, every setting is written in its range, and every
event ends with the pins driven anew. -/
theorem stepKeepsQueueSettingsAndPins : Obligations.StepKeepsQueueSettingsAndPins := by
  intro s t stepped
  refine ⟨fun sound => ?_, fun legal => ?_, fun fits => ?_, fun driven => ?_⟩
  · refine eventsSound_kept.step (fun _ _ h => h) (fun _ h => h) (fun s h => ?_) (fun _ _ h => h) sound stepped
    rcases s.clockPeriod_cases with k | ⟨-, k⟩ <;> rw [k] <;> exact h
  · exact settingsLegal_kept.step (fun _ _ h => h) (fun _ => settingsLegal_countTick) (fun _ => settingsLegal_clockPeriod)
      (fun _ _ h => h) legal stepped
  · exact answersFit_kept.step (P := AnswersFit) fits stepped
  · have after := pinsDriven_kept.step (fun _ _ h => h) (fun s h => h.trans (pinLevels_countTick s).symm)
      (fun _ => pinsDriven_clockPeriod) (fun _ _ h => h) driven stepped
    refine ⟨after, ?_, ?_, ?_, fun landed => ?_⟩ <;> rw [show t.pins = t.pinLevels from after]
    · change portAPins t.ports.a.state = _
      cases t.ports.a.state <;> rfl
    · change portBPins t.ports.b.state = _
      cases t.ports.b.state <;> rfl
    · cases select : t.link.select <;> simp [State.pinLevels, mdoPin, select, Image.mdoByte, Image.bytes]
    · simp [State.pinLevels, memoryPins, landed, MemoryPins.released]

/-- Settles O2: no command refuses, and none reaches the commands that wait. -/
theorem everyCommandCompletesAndKeepsQueue : Obligations.EveryCommandCompletesAndKeepsQueue := by
  intro i s
  by_cases tick : i = .tick
  · rw [tick]
    exact (pending_kept s.pending).tick trivial (fun _ _ h => h) (fun _ h => h) rfl
  · exact (pending_kept s.pending).exec rfl i (fun _ _ => trivial) tick

/-- Settles O38: a port reset only marks the transfer in flight, and no other command but those left out touches it. -/
theorem grantedTransferRunsOn : Obligations.GrantedTransferRunsOn := by
  intro i s t f flying done noWord noAnswer noLimit noTick noReset
  have free : ∀ x ∈ changesOf i, x ≠ .memory ∧ x ≠ .reset := fun x among =>
    ⟨by rintro rfl; exact memory_of_changes noWord noAnswer noLimit noTick among,
      by rintro rfl; exact reset_of_changes noReset among⟩
  obtain ⟨u, done', flies⟩ := (flies_kept f).exec ⟨f, flying, rfl, rfl, rfl, rfl, rfl⟩ i free noTick
  rw [done] at done'
  cases done'
  exact flies

/-- Settles O47: what a command may write of the settings is its own. -/
theorem settingsKeptByOtherCommands : Obligations.SettingsKeptByOtherCommands := by
  intro i s t wf done noReset framed
  obtain ⟨timebase, hold, retry, alert⟩ := setting_of_changes wf framed
  have calm : Change.reset ∉ changesOf i := reset_of_changes noReset
  have settings : KeepsSettings (· ∈ changesOf i) s t := by
    have begun : KeepsSettings (· ∈ changesOf i) s s :=
      ⟨fun _ => rfl, fun _ _ => rfl, fun _ => rfl, fun _ => ⟨rfl, rfl⟩⟩
    have after : ∃ u, exec i s = .next u ∧ KeepsSettings (· ∈ changesOf i) s u := by
      by_cases tick : i = .tick
      · subst tick
        exact (keepsSettings_kept calm s).tick (by simp [changesOf])
          (fun _ _ keeps => keeps.of_same rfl (fun _ => rfl) rfl ⟨rfl, rfl⟩)
          (fun _ keeps => keeps.of_same rfl (fun p => by cases p <;> rfl) rfl ⟨rfl, rfl⟩) begun
      · exact (keepsSettings_kept calm s).exec begun i (fun _ among => among) tick
    obtain ⟨u, done', keeps⟩ := after
    rw [done] at done'
    cases done'
    exact keeps
  have period : i ≠ .tick → KeepsPeriod (· ∈ changesOf i) s t ∧ t.time.ticked = false := fun tick => by
    obtain ⟨u, done', keeps⟩ := (keepsPeriod_kept calm s).exec ⟨rfl, fun _ => rfl⟩ i (fun _ among => among) tick
    rw [done] at done'
    cases done'
    exact keeps
  have noTimebase : (∀ tag args, i ≠ .setTimebase tag args) → Change.timebase ∉ changesOf i := fun other among => by
    obtain ⟨tag, args, rfl⟩ := timebase among
    exact other tag args rfl
  refine ⟨fun other => ⟨settings.timebase (noTimebase other), fun tick => (period tick).1.underWay (noTimebase other)⟩,
    fun tick => ⟨(period tick).1.count, (period tick).2⟩, fun other => settings.hold fun among => ?_,
    fun other => settings.retry fun among => ?_, fun other => settings.alert fun among => ?_⟩
  · obtain ⟨tag, args, rfl⟩ := hold among
    exact other tag args rfl
  · obtain ⟨tag, args, rfl⟩ := retry among
    exact other tag args rfl
  · obtain ⟨tag, args, rfl⟩ := alert among
    exact other tag args rfl

end Sys2Proof.Proofs
end

section
/-! PROOFS. The step, the state after reset, the reset lines, strobes and ticks, and the event queue's entry: the statements
O1, O3, O4, O5, O9, O22, O23, O39 and O41. -/

namespace Sys2Proof.Machine

open Sys2Proof

/-! ## The state after reset -/

@[simp] theorem reset_entry (e : EntryIndex) : State.reset.entry e = .empty := by
  simp [State.entry, State.reset]

@[simp] theorem reset_claims (e : EntryIndex) : State.reset.claims[e] = none := by
  simp [State.reset]

@[simp] theorem reset_ports (p : Port) : State.reset.ports.get p = HostPort.reset := by
  cases p <;> rfl

theorem reset_tally (e : EntryIndex) :
    State.reset.tally e =
      { entry := .empty, holder := none, snaps := ⟨0, 0⟩, opens := ⟨0, 0⟩, queued := ⟨0, 0⟩ } := by
  unfold State.tally
  rw [reset_entry, reset_claims]
  rfl

theorem reset_quiet : State.reset.alerting = false := by
  rw [← Bool.not_eq_true, Proofs.alerting_iff]
  rintro ⟨-, full | ⟨-, e, poisoned⟩⟩
  · exact absurd full (by decide)
  · rw [reset_entry] at poisoned
    contradiction

/-- While RESETn is asserted every output pin stands at its idle level (R117, R165, R168, R186). -/
theorem pinLevels_deviceReset {s : State} (during : s.inReset = true)
    (ports : ∀ p, (s.ports.get p).state = .idle ∨ (s.ports.get p).state = .inReset)
    (landed : s.mem.inFlight = none) (select : s.link.select = .high ∨ s.link.select = .ignored) :
    s.pinLevels = Pins.idle := by
  have portA : portAPins s.ports.a.state = Pins.idle.portA := by
    rcases ports .a with h | h <;> rw [PerPort.get_a] at h <;> rw [h] <;> rfl
  have portB : portBPins s.ports.b.state = Pins.idle.portB := by
    rcases ports .b with h | h <;> rw [PerPort.get_b] at h <;> rw [h] <;> rfl
  have mdo : mdoPin s.link.select = none := by
    rcases select with h | h <;> rw [h] <;> rfl
  have quiet : s.alerting = false := by simp [State.alerting, during]
  unfold State.pinLevels
  rw [portA, portB, mdo, quiet, landed]
  rfl

/-- A device reset leaves the reset values, with the pins idle. -/
theorem deviceReset_eq (s : State) :
    s.deviceReset =
      { State.reset with
        ports := ⟨s.ports.a.deviceReset, s.ports.b.deviceReset⟩
        link := { Link.reset with select := s.link.select.deviceReset }
        inReset := true
        choices := s.choices
        pending := s.pending } := by
  have quiet : ∀ x : HostPort, x.deviceReset.state = .idle ∨ x.deviceReset.state = .inReset := by
    intro x
    cases h : x.resetLow <;> simp [HostPort.deviceReset, h]
  have idle := pinLevels_deviceReset (s := { State.reset with
        ports := ⟨s.ports.a.deviceReset, s.ports.b.deviceReset⟩
        link := { Link.reset with select := s.link.select.deviceReset }
        inReset := true
        choices := s.choices
        pending := s.pending }) rfl (fun p => by cases p <;> exact quiet _) rfl
    (by change s.link.select.deviceReset = _ ∨ s.link.select.deviceReset = _; cases s.link.select <;> simp [Select.deviceReset])
  unfold State.deviceReset State.drivePins
  rw [idle]
  rfl

end Sys2Proof.Machine

namespace Sys2Proof.Proofs

open Sys2Proof Sys2Proof.Machine

/-- Settles O1: a period of CLK is counted while there is room in the period under way, and not during a device reset. -/
theorem stepRunsFrontCommand : Obligations.StepRunsFrontCommand := by
  intro s
  refine ⟨fun empty => ?_, fun c rest front => ?_⟩
  · have waits : step s = .next s.clockPeriod := by
      unfold step
      rw [empty]
    rw [waits]
    unfold State.clockPeriod
    by_cases counts : s.inReset = false ∧ s.time.count < s.time.underWay
    · rw [if_pos counts, if_pos (by simpa using counts)]
    · rw [if_neg counts, if_neg (by simpa using counts)]
      rfl
  · unfold step
    rw [front]

/-- Settles O3. -/
theorem resetLeavesTheStatedValues : Obligations.ResetLeavesTheStatedValues :=
  ⟨reset_entry, rfl, rfl, rfl, reset_claims, fun p => by cases p <;> exact ⟨rfl, rfl⟩, rfl, rfl, rfl, rfl, rfl, rfl, rfl,
    rfl, rfl, rfl, rfl, rfl, rfl⟩

/-- Settles O4: the table is empty, the pools and queues are empty, and both ports are IDLE. -/
theorem resetHasTheInvariants : Obligations.ResetHasTheInvariants := by
  refine ⟨?_, ?_, ?_, ?_, ?_, ?_, ?_, ?_, ?_, ?_, ?_, ?_⟩
  · exact (usersExact_iff _).mpr fun e => by rw [reset_tally]; rfl
  · intro e draining
    rw [reset_entry] at draining
    contradiction
  · intro e f _ c among
    rw [reset_entry] at among
    contradiction
  · intro e c among
    rw [reset_entry] at among
    contradiction
  · intro p
    cases p <;> exact ⟨Nat.zero_le _, Nat.zero_le _, fun e => ⟨Nat.zero_le _, Nat.zero_le _⟩⟩
  · exact (claimsSound_iff _).mpr fun e => by rw [reset_tally]; rfl
  · exact ⟨Nat.zero_le _, trivial, Nat.zero_le _⟩
  · refine ⟨by decide, by decide, by decide, nofun, fun p => ?_, by decide, by decide⟩
    rw [reset_ports]
    decide
  · intro p
    rw [reset_ports]
    refine ⟨by decide, fun _ => .inl rfl, fun t asked => ?_⟩
    cases p <;> contradiction
  · intro p a ans state
    rw [reset_ports] at state
    contradiction
  · exact ⟨rfl, rfl⟩
  · unfold State.pinsDriven State.pinLevels
    rw [reset_quiet]
    rfl

/-- Settles O5. -/
theorem resetLinesFollowed : Obligations.ResetLinesFollowed := by
  intro s
  refine ⟨?_, fun during => ?_, fun released => ?_, fun p => ⟨fun low => ⟨?_, ?_⟩, fun high => ⟨?_, fun during => ?_⟩⟩⟩
  · change Host.Outcome.next s.deviceReset = _
    rw [deviceReset_eq]
    have select : s.link.select.deviceReset = if s.link.select = .high then .high else .ignored := by
      cases s.link.select <;> rfl
    rw [select]
    rfl
  · exact if_pos during
  · exact if_neg (by rw [released]; decide)
  · exact if_pos low
  · change execPortResetRelease p s = _
    rw [execPortResetRelease, if_pos low, Work.close_nil rfl]
    rfl
  · exact if_neg (by rw [high]; decide)
  · change execPortReset p s = _
    rw [execPortReset, if_neg (by rw [high]; decide), if_pos during, Work.close_nil rfl]
    rfl

/-- Settles O9. -/
theorem noDirectionRefusedAndNoArrivalNoted : Obligations.NoDirectionRefusedAndNoArrivalNoted := by
  intro s
  refine ⟨fun addr data takes => ?_, fun selected strobes addr data missed => ?_,
    fun word isWrite enabled data missed => ?_⟩
  · change execPortAArrival true .both addr data s = _
    simp only [execPortAArrival, takes, Bool.and_self, if_true]
    rw [arrive_reply_finish]
    rfl
  · change execPortAArrival selected strobes addr data s = _
    have none : ¬(selected && s.takesArrival .a) = true := by rcases missed with h | h <;> simp [h]
    rw [execPortAArrival.eq_def]
    dsimp only
    rw [if_neg none, Work.finish_quiet rfl, Work.close_nil rfl]
    rfl
  · change execPortBArrival word isWrite enabled data s = _
    rw [execPortBArrival.eq_def]
    dsimp only
    rw [if_neg (by rw [missed]; decide), Work.finish_quiet rfl, Work.close_nil rfl]
    rfl

/-- Settles O22. -/
theorem strobeReleaseEndsOrMarks : Obligations.StrobeReleaseEndsOrMarks := by
  intro sample s
  have ends : exec (.strobeRelease sample) s =
      .next (State.drivePins
        { s with
          ports := s.ports.set (sampledPort sample) ((s.ports.get (sampledPort sample)).sampled sample s.inReset) }) := by
    change execStrobeRelease sample s = _
    rw [execStrobeRelease, Work.finish_quiet rfl, Work.close_nil rfl]
    rfl
  refine ⟨fun resting => ?_, fun awake out => ?_⟩
  · rw [ends, HostPort.sampled, if_pos (by simpa using resting)]
  · rw [ends, HostPort.sampled, if_neg (by simp [awake, out])]
    cases (s.ports.get (sampledPort sample)).state <;> rfl

/-- A tick that finds no timer overdue is counted and nothing else (R38). -/
theorem exec_tick_of_notDue {s : State} (released : s.inReset = false) (quiet : s.dues = []) :
    exec .tick s = .next s.countTick := by
  change execTick s = _
  have none : State.expireOverdue Config.overdueFuel s = s := by
    simp [Config.overdueFuel, State.expireOverdue, quiet]
  rw [execTick, if_neg (by rw [released]; decide), none]

/-- Settles O23. -/
theorem tickCountedByRunningTimers : Obligations.TickCountedByRunningTimers := by
  intro s
  refine ⟨fun during => if_pos during, fun released quiet => ?_⟩
  rw [exec_tick_of_notDue released quiet]
  rfl

/-- Settles O39. -/
theorem eventEnteredOrDropped : Obligations.EventEnteredOrDropped := by
  intro q r
  refine ⟨fun room => if_pos room, fun full drops => ?_⟩
  have noRoom : ¬q.records.length < Config.queueCapacity := Nat.not_lt.mpr full
  rw [EventQueue.enter, if_neg noRoom]
  congr 1
  simp only [Config.dropLimit]
  split <;> omega

/-- Settles O41. -/
theorem frameJudgedInOrder : Obligations.FrameJudgedInOrder := by
  intro busy
  refine ⟨fun bytes short => ?_, fun code tag len rest => ?_⟩
  · match bytes with
    | [] => rfl
    | [_] => rfl
    | [_, _] => rfl
    | _ :: _ :: _ :: rest =>
      rw [List.length_cons, List.length_cons, List.length_cons] at short
      omega
  · have zero : ∀ b : Byte, b.toNat = 0 ↔ b = 0 := fun b => by bv_omega
    simp only [judge, Config.maxArgs, ne_eq, zero]

end Sys2Proof.Proofs
end

section
/-! PROOFS. The memory port: grants, words kept and attempts made again, and the pins of an attempt: the statements O29, O30
and O31. -/

namespace Sys2Proof.Machine

open Sys2Proof

/-- Where a transfer is in flight or nothing waits, nothing is granted (log 10). -/
theorem grantNext_idle {w : Work} (idle : w.s.mem.inFlight ≠ none ∨ w.s.mem.next = none) : w.grantNext = w := by
  rcases grantNext_cases w with k | ⟨r, t, landed, next, -⟩
  · exact k
  · rcases idle with flying | quiet
    · exact absurd landed flying
    · rw [quiet] at next
      contradiction

/-- The grant of the commit engine's request (R101, R102, R106). -/
theorem grantNext_commit {w : Work} {t : Transfer} (landed : w.s.mem.inFlight = none)
    (next : w.s.mem.next = some (.commit, t)) :
    w.grantNext =
      w.setMem
        { w.s.mem with
          inFlight := some (t.granted w.s.mem.retryLimit), lastGranted := .commit, waitingCommit := none } := by
  simp only [Work.grantNext, landed, next]
  rfl

/-- The grant of a port side's request (R101, R102, R106). -/
theorem grantNext_port {w : Work} {p : Port} {t : Transfer} (landed : w.s.mem.inFlight = none)
    (next : w.s.mem.next = some (.port p, t)) :
    w.grantNext =
      (w.setMem
        { w.s.mem with
          inFlight := some (t.granted w.s.mem.retryLimit), lastGranted := .port p,
          waiting := w.s.mem.waiting.set p none }).setPortState p (w.s.ports.get p).state.afterGrant := by
  simp only [Work.grantNext, landed, next]
  rfl

/-- A status below BAD is GOOD for 0 and FIXED for 1 (R97). -/
theorem readStatusOf_of_le {mst : BitVec 2} (low : mst.toNat ≤ 1) :
    readStatusOf mst = if mst = 0 then .good else .fixed := by
  revert mst
  decide

theorem readStatusOf_of_ge {mst : BitVec 2} (high : 2 ≤ mst.toNat) : readStatusOf mst = .bad := by
  revert mst
  decide

theorem attemptFailed_retry {w : Work} {f : InFlight} (more : f.attempts < f.allowance) :
    w.attemptFailed f = w.setInFlight (some f.retry) := if_pos more

theorem exec_memoryReadWord {s : State} {f : InFlight} {data : Word} {mst : BitVec 2} (flying : s.mem.inFlight = some f)
    (reads : f.transfer.isRead = true) :
    exec (.memoryReadWord data ⟨true, mst⟩) s = .next (s.begin.takeWord f data mst).finish := by
  change execMemoryReadWord data ⟨true, mst⟩ s = _
  rw [execMemoryReadWord, State.attemptMet_true, flying]
  exact if_pos reads

theorem exec_memoryWriteAnswer {s : State} {f : InFlight} {mst : BitVec 2} (flying : s.mem.inFlight = some f)
    (writes : f.transfer.isRead = false) :
    exec (.memoryWriteAnswer ⟨true, mst⟩) s = .next (s.begin.takeAnswer f mst).finish := by
  change execMemoryWriteAnswer ⟨true, mst⟩ s = _
  rw [execMemoryWriteAnswer, State.attemptMet_true, flying]
  exact if_neg (by rw [writes]; decide)

/-- An event that only replaces the transfer in flight. -/
theorem setInFlight_finish (s : State) (f : Option InFlight) :
    (s.begin.setInFlight f).finish = (s.withInFlight f).drivePins := by
  rw [Work.finish_quiet rfl, Work.close_nil rfl]
  rfl

theorem takeWord_bad {w : Work} {f : InFlight} {data : Word} {mst : BitVec 2} (high : 2 ≤ mst.toNat) :
    w.takeWord f data mst = w.attemptFailed f := by
  rw [Work.takeWord, readStatusOf_of_ge high]

theorem takeAnswer_fail {w : Work} {f : InFlight} {mst : BitVec 2} (high : 2 ≤ mst.toNat) :
    w.takeAnswer f mst = w.attemptFailed f := by
  rw [Work.takeAnswer, writeDone, if_neg (by rw [decide_eq_true_eq]; omega)]

/-- A word that is not BAD is the last, or is kept. -/
theorem takeWord_good {w : Work} {f : InFlight} {data : Word} {mst : BitVec 2} (low : mst.toNat ≤ 1) :
    w.takeWord f data mst =
      if f.transfer.length ≤ f.taken.length + 1 then
        w.transferDone f ((f.taken ++ [(data, if mst = 0 then ReadStatus.good else .fixed)]).map Prod.fst)
      else w.setInFlight (some { f with taken := f.taken ++ [(data, if mst = 0 then .good else .fixed)] }) := by
  rw [Work.takeWord, readStatusOf_of_le low]
  split
  · next bad => split at bad <;> contradiction
  · simp only [List.length_append, List.length_singleton]

/-- The commands that tell a failure of the attempt in flight (R97 to R99). -/
def Instr.failsAttempt (i : Instr) (f : InFlight) : Prop :=
  (∃ data mst, i = .memoryReadWord data ⟨true, mst⟩ ∧ f.transfer.isRead = true ∧ 2 ≤ mst.toNat)
    ∨ (∃ mst, i = .memoryWriteAnswer ⟨true, mst⟩ ∧ f.transfer.isRead = false ∧ 2 ≤ mst.toNat)
    ∨ (i = .memoryAnswerLimitExpiry ∧ f.timer.due = true)

theorem exec_of_failsAttempt {i : Instr} {s : State} {f : InFlight} (flying : s.mem.inFlight = some f)
    (fails : Instr.failsAttempt i f) : exec i s = .next (s.begin.attemptFailed f).finish := by
  rcases fails with ⟨data, mst, rfl, reads, bad⟩ | ⟨mst, rfl, writes, bad⟩ | ⟨rfl, due⟩
  · rw [exec_memoryReadWord flying reads, takeWord_bad bad]
  · rw [exec_memoryWriteAnswer flying writes, takeAnswer_fail bad]
  · change execMemoryAnswerLimitExpiry s = _
    rw [execMemoryAnswerLimitExpiry, Work.expireAnswer, State.begin_s, flying]
    simp only [due, if_true]

/-- What an attempt presents, written out (R96; log 18). -/
theorem attemptPins_eq (f : InFlight) :
    f.attemptPins =
      if f.transfer.isRead = true then
        [{ mreqn := false, ma := some f.transfer.first, mwrn := some true,
           mlen := some (BitVec.ofNat 3 (f.transfer.length - 1)), mben := 15, md := none }]
      else
        (List.range f.transfer.length).map fun k =>
          { mreqn := false, ma := some (BitVec.ofNat 20 (f.transfer.first.toNat + k)), mwrn := some false,
            mlen := some (BitVec.ofNat 3 (f.transfer.length - 1)),
            mben := ~~~ ((f.transfer.writes[k]?.map WriteWord.lanes).getD 0),
            md := f.transfer.writes[k]?.map WriteWord.data } := by
  have address : ∀ k : Nat, f.transfer.first + BitVec.ofNat 20 k = BitVec.ofNat 20 (f.transfer.first.toNat + k) := by
    intro k
    apply BitVec.eq_of_toNat_eq
    simp
  unfold InFlight.attemptPins
  cases reads : f.transfer.isRead with
  | true => simp [InFlight.wordPins, reads]
  | false => simp [InFlight.wordPins, reads, address]

end Sys2Proof.Machine

namespace Sys2Proof.Proofs

open Sys2Proof Sys2Proof.Machine

/-- Settles O29. -/
theorem grantStartsFirstInTheCycle : Obligations.GrantStartsFirstInTheCycle := by
  refine ⟨fun m => ?_, fun s => ⟨fun none => ?_, fun r t landed next => ?_⟩⟩
  · cases last : m.lastGranted with
    | commit =>
      cases a : m.request (.port .a) <;> cases b : m.request (.port .b) <;> cases c : m.request .commit <;>
        simp [MemoryPort.next, last, Requester.cycleAfter, a, b, c]
    | port p =>
      cases p <;> cases a : m.request (.port .a) <;> cases b : m.request (.port .b) <;> cases c : m.request .commit <;>
        simp [MemoryPort.next, last, Requester.cycleAfter, a, b, c]
  · change Host.Outcome.next s.begin.grantNext.finish = _
    rw [grantNext_idle none, Work.finish_quiet rfl, Work.close_nil rfl]
    rfl
  · cases r with
    | commit =>
      change Host.Outcome.next s.begin.grantNext.finish = _
      rw [grantNext_commit (w := s.begin) landed next, Work.finish_quiet rfl, Work.close_nil rfl]
      rfl
    | port p =>
      intro f h held
      change Host.Outcome.next s.begin.grantNext.finish = _
      rw [grantNext_port (w := s.begin) landed next, Work.finish_quiet rfl, Work.close_nil rfl, State.begin_s, held]
      rfl

/-- Settles O30. -/
theorem goodReadWordIsKept : Obligations.GoodReadWordIsKept := by
  intro data mst s
  refine ⟨fun f flying reads low more => ?_, fun noRead => ?_, fun noWrite => ?_, rfl, rfl⟩
  · rw [exec_memoryReadWord flying reads, takeWord_good low, if_neg (by omega), setInFlight_finish]
  · change execMemoryReadWord data ⟨true, mst⟩ s = _
    rw [execMemoryReadWord, State.attemptMet_true]
    split
    · next f flying => rw [if_neg (by rw [noRead f flying]; decide)]
    · rfl
  · change execMemoryWriteAnswer ⟨true, mst⟩ s = _
    rw [execMemoryWriteAnswer, State.attemptMet_true]
    split
    · next f flying => rw [if_pos (noWrite f flying)]
    · rfl

/-- Settles O31. -/
theorem failedAttemptIsMadeAgainWhole : Obligations.FailedAttemptIsMadeAgainWhole := by
  intro s
  refine ⟨fun i f flying fails more => ?_, fun notDue => ?_, fun f flying driven => ?_⟩
  · rw [exec_of_failsAttempt flying fails, attemptFailed_retry more, setInFlight_finish]
    rfl
  · change execMemoryAnswerLimitExpiry s = _
    have idle : s.begin.expireAnswer = s.begin := by
      unfold Work.expireAnswer
      split
      · next f flying => rw [if_neg (by rw [notDue f flying]; decide)]
      · rfl
    rw [execMemoryAnswerLimitExpiry, idle, Work.finish_quiet rfl, Work.close_nil rfl]
    rfl
  · have memory : s.pins.memory = memoryPins s.mem.inFlight := congrArg Pins.memory driven
    rw [memory, flying, memoryPins, attemptPins_eq]
    rfl

end Sys2Proof.Proofs
end

section
/-! PROOFS. The link: images and NOP, frames given as bits, requests refused, settings written, and the entry image: the
statements O42, O44, O45, O46 and O50. -/

namespace Sys2Proof.Machine

open Sys2Proof

/-! ## Bits and bytes (R167) -/

theorem packBits_byte (b : Byte) (rest : List Bool) :
    packBits ((List.range 8).map (fun i => b.getLsbD (7 - i)) ++ rest) = b :: packBits rest := by
  have bits : BitVec.ofNat 8
      (128 * (b.getLsbD 7).toNat + 64 * (b.getLsbD 6).toNat + 32 * (b.getLsbD 5).toNat + 16 * (b.getLsbD 4).toNat
        + 8 * (b.getLsbD 3).toNat + 4 * (b.getLsbD 2).toNat + 2 * (b.getLsbD 1).toNat + (b.getLsbD 0).toNat) = b := by
    revert b
    decide
  exact congrArg (· :: packBits rest) bits

theorem packBits_unpackBytes (bytes : List Byte) (more : List Bool) :
    packBits (unpackBytes bytes ++ more) = bytes ++ packBits more := by
  induction bytes with
  | nil => rfl
  | cons b bs ih => rw [unpackBytes, List.append_assoc, packBits_byte, ih, List.cons_append]

/-! ## Frames and what follows them (R169) -/

/-- Bytes after the whole frame are not looked at. -/
theorem judge_append {code tag len : Byte} {rest : List Byte} (more : List Byte) (busy : Bool)
    (whole : len.toNat + 1 ≤ rest.length) :
    judge (code :: tag :: len :: (rest ++ more)) busy = judge (code :: tag :: len :: rest) busy := by
  have longer : ¬(rest ++ more).length < len.toNat + 1 := by rw [List.length_append]; omega
  have enough : ¬rest.length < len.toNat + 1 := by omega
  simp only [judge, if_neg longer, if_neg enough, List.take_append_of_le_length whole,
    List.take_append_of_le_length (Nat.le_of_succ_le whole)]

theorem judge_requestFrame_append (code tag : Byte) {args : List Byte} (fits : args.length ≤ 11) (more : List Byte)
    (busy : Bool) : judge (requestFrame code tag args ++ more) busy = judge (requestFrame code tag args) busy := by
  have len : (BitVec.ofNat 8 args.length).toNat = args.length := by
    rw [BitVec.toNat_ofNat]
    omega
  refine judge_append (rest := args ++ [_]) more busy ?_
  rw [len, List.length_append]
  rfl

/-- A NOP is judged before the image that was shifted out (R171, R172). -/
theorem judge_nop {bytes : List Byte} (nop : judge bytes false = .nop) (busy : Bool) : judge bytes busy = .nop := by
  cases busy with
  | false => exact nop
  | true =>
    unfold judge at nop ⊢
    split at nop
    · split_ifs at nop with long cut sum zero
      · rw [if_neg long, if_neg cut, if_neg sum, if_pos zero]
    · contradiction

/-- The arguments of a well-formed link row fit a frame. -/
theorem fits_of_frame {i : Instr} {code tag : Byte} {args : List Byte} (wf : i.wellFormed = true)
    (frame : frameOf i = some (code, tag, args)) : args.length ≤ 11 := by
  cases i <;> cases frame
  case unknownCommand =>
    simp only [Instr.wellFormed, Bool.and_eq_true] at wf
    exact of_decide_eq_true wf.1.1
  all_goals exact of_decide_eq_true wf

/-! ## Sums (R189) -/

theorem sumBytes_toNat (bytes : List Byte) : (sumBytes bytes).toNat = (bytes.map BitVec.toNat).sum % 256 := by
  induction bytes with
  | nil => rfl
  | cons b bs ih =>
    rw [sumBytes, BitVec.toNat_add, ih, List.map_cons, List.sum_cons]
    omega

/-! ## A request's own action and the slot (R173) -/

/-- The event of a request that is taken: the command's own action, and the slot with its answer. -/
theorem releaseSelect_taken {s : State} {cmd : Command} (tag : Byte) {args : List Byte} {w : Work} {status : Status}
    {results : List Byte} (takes : s.takesRequest = true) (len : args.length = argLength cmd)
    (action : s.begin.deselect.takeCommand args cmd = (w, status, results)) :
    s.releaseSelect (requestFrame (codeOfCommand cmd) tag args) =
      (w.setLink { w.s.link with tag := tag, status := status, results := results, pendingMark := true }).finish := by
  rw [Proofs.releaseSelect_requestFrame _ _ takes (len ▸ Proofs.argLength_le_maxArgs cmd) (Proofs.codeOfCommand_ne_zero cmd),
    Work.takeRequest, Proofs.decideRequest_of_length _ len, action]

theorem setLink_finish {w : Work} {l : Link} (again : w.again = ⟨false, false⟩) (reports : w.reports = []) :
    (w.setLink l).finish = State.drivePins { w.s with link := l } := by
  have quiet : (w.setLink l).again = ⟨false, false⟩ := again
  have silent : (w.setLink l).reports = [] := reports
  rw [Work.finish_quiet quiet, Work.close_nil silent]
  rfl

/-- An action that leaves nothing to classify and nothing to report ends its event with it. -/
theorem releaseSelect_quiet {s : State} {cmd : Command} (tag : Byte) {args : List Byte} {w : Work} {status : Status}
    {results : List Byte} (takes : s.takesRequest = true) (len : args.length = argLength cmd)
    (action : s.begin.deselect.takeCommand args cmd = (w, status, results)) (again : w.again = ⟨false, false⟩)
    (reports : w.reports = []) :
    s.releaseSelect (requestFrame (codeOfCommand cmd) tag args) =
      State.drivePins
        { w.s with
          link := { w.s.link with tag := tag, status := status, results := results, pendingMark := true } } := by
  rw [releaseSelect_taken tag takes len action, setLink_finish again reports]

theorem exec_rowOf (cmd : Command) (tag : Byte) (args : List Byte) (s : State) :
    exec (rowOf cmd tag args) s = .next (s.releaseSelect (requestFrame (codeOfCommand cmd) tag args)) := by
  cases cmd <;> rfl

/-- A tick and the driving of the pins after it: no pin shows a tick. -/
theorem drivePins_countTick (s : State) : s.countTick.drivePins = s.drivePins.countTick.pastTick := by
  have levels := pinLevels_countTick s
  unfold State.drivePins
  rw [levels]
  rfl

/-! ## The settings commands (R39, R110, R127, R164, R178) -/

section Settings
variable {s : State} (tag : Byte) (takes : s.takesRequest = true)
include takes

/-- A refused argument leaves BAD_ARG in the slot, and nothing else. -/
theorem exec_badArg {cmd : Command} {args : List Byte} (len : args.length = argLength cmd)
    (action : s.begin.deselect.takeCommand args cmd = (s.begin.deselect, .badArg, [])) :
    exec (rowOf cmd tag args) s = .next (s.withSlot tag .badArg []).drivePins := by
  rw [exec_rowOf, Proofs.releaseSelect_of_unchanged tag takes len action]

/-- An action that leaves nothing to classify and nothing to report. -/
theorem exec_quiet {cmd : Command} {args : List Byte} {w : Work} (len : args.length = argLength cmd)
    (action : s.begin.deselect.takeCommand args cmd = (w, .ok, [])) (again : w.again = ⟨false, false⟩)
    (reports : w.reports = []) :
    exec (rowOf cmd tag args) s =
      .next
        (State.drivePins
          { w.s with link := { w.s.link with tag := tag, status := .ok, results := [], pendingMark := true } }) := by
  rw [exec_rowOf, releaseSelect_quiet tag takes len action again reports]

theorem exec_setTimebase (n : Byte) :
    exec (.setTimebase tag [n]) s =
      .next
        (State.drivePins
          (if 10 ≤ n.toNat ∧ n.toNat ≤ 200 then { s.withSlot tag .ok [] with time := s.time.set n.toNat }
          else s.withSlot tag .badArg [])) := by
  split
  · next range =>
    exact exec_quiet (cmd := .setTimebase) (args := [n]) (w := s.begin.deselect.setTime (s.time.set n.toNat)) tag takes rfl
      (if_pos range) rfl rfl
  · next range => exact exec_badArg (cmd := .setTimebase) (args := [n]) tag takes rfl (if_neg range)

theorem exec_setRetry (n : Byte) :
    exec (.setRetry tag [n]) s =
      .next
        (State.drivePins
          (if n.toNat ≤ 7 then { s.withSlot tag .ok [] with mem := { s.mem with retryLimit := n.toNat } }
          else s.withSlot tag .badArg [])) := by
  split
  · next range =>
    exact exec_quiet (cmd := .setRetry) (args := [n]) (w := s.begin.deselect.setMem { s.mem with retryLimit := n.toNat })
      tag takes rfl (if_pos range) rfl rfl
  · next range => exact exec_badArg (cmd := .setRetry) (args := [n]) tag takes rfl (if_neg range)

theorem exec_setAlert (n b : Byte) :
    exec (.setAlert tag [n, b]) s =
      .next
        (State.drivePins
          (if 1 ≤ n.toNat ∧ n.toNat ≤ 32 ∧ b.toNat ≤ 1 then
            { s.withSlot tag .ok [] with
              events := { s.events with threshold := n.toNat, poisonAlert := decide (b.toNat = 1) } }
          else s.withSlot tag .badArg [])) := by
  split
  · next range =>
    obtain ⟨low, high, bit⟩ := range
    exact exec_quiet (cmd := .setAlert) (args := [n, b])
      (w := s.begin.deselect.setEvents { s.events with threshold := n.toNat, poisonAlert := decide (b.toNat = 1) }) tag
      takes rfl (if_pos ⟨⟨low, high⟩, bit⟩) rfl rfl
  · next range =>
    exact exec_badArg (cmd := .setAlert) (args := [n, b]) tag takes rfl
      (if_neg fun ⟨⟨low, high⟩, bit⟩ => range ⟨low, high, bit⟩)

theorem exec_setHold (q lo hi : Byte) :
    exec (.setHold tag [q, lo, hi]) s =
      .next
        (State.drivePins
          (if 1 ≤ q.toNat ∧ q.toNat ≤ 3 ∧ 1 ≤ lo.toNat + 256 * hi.toNat then
            { s.withSlot tag .ok [] with
              ports :=
                ⟨{ s.ports.a with
                   holdLimit := if q.toNat = 2 then s.ports.a.holdLimit else lo.toNat + 256 * hi.toNat },
                 { s.ports.b with
                   holdLimit := if q.toNat = 1 then s.ports.b.holdLimit else lo.toNat + 256 * hi.toNat }⟩ }
          else s.withSlot tag .badArg [])) := by
  have limit : argPair [q, lo, hi] 1 = lo.toNat + 256 * hi.toNat := by simp [argPair, leValue]
  have taken : ∀ ps, portChoice q.toNat = some ps → 1 ≤ lo.toNat + 256 * hi.toNat →
      s.begin.deselect.takeCommand [q, lo, hi] .setHold =
        (ps.foldl (Work.setHoldLimit · (lo.toNat + 256 * hi.toNat) ·) s.begin.deselect, .ok, []) := by
    intro ps chosen positive
    simp only [Work.takeCommand, Work.takeSetHold, argByte, List.getElem?_cons_zero, Option.getD_some, chosen, limit,
      if_pos positive]
  split
  · next range =>
    obtain ⟨low, high, positive⟩ := range
    have cases3 : q.toNat = 1 ∨ q.toNat = 2 ∨ q.toNat = 3 := by omega
    rcases cases3 with h | h | h <;> rw [h] at taken <;>
      exact (exec_quiet (cmd := .setHold) tag takes rfl (taken _ rfl positive) rfl rfl).trans (by rw [h]; rfl)
  · next range =>
    refine exec_badArg (cmd := .setHold) (args := [q, lo, hi]) tag takes rfl ?_
    simp only [Work.takeCommand, Work.takeSetHold, argByte, List.getElem?_cons_zero, Option.getD_some, limit]
    split
    · rfl
    · next ps chosen =>
      refine if_neg fun positive => range ⟨?_, ?_, positive⟩
      all_goals
        unfold portChoice at chosen
        split at chosen
        · omega
        · omega
        · omega
        · contradiction

end Settings

/-! ## The entry image (R192, R193) -/

/-- Byte 4 holds the order and the writers. -/
theorem byteFour_decodes (o : Order) (x : Writers) :
    let n := BitVec.ofNat 8 (o.number + 4 * x.number)
    n.toNat / 16 = 0 ∧ orderOf (n.toNat % 4) = some o ∧ writersOf (n.toNat / 4) = x := by
  cases o <;> cases x <;> decide

theorem byteFour_encodes : ∀ four : Byte, four.toNat / 16 = 0 →
    ((orderOf (four.toNat % 4)).all fun o =>
      BitVec.ofNat 8 (o.number + 4 * (writersOf (four.toNat / 4)).number) == four) = true := by
  decide

/-- Byte 5 holds the two policies, the claim and the stray policy. -/
theorem byteFive_decodes (c : Content) :
    let n := BitVec.ofNat 8 c.byteFive
    n.toNat / 16 = 0 ∧ (if n.getLsbD 0 = true then ReadPolicy.through else .snapshot) = c.readPolicy
      ∧ (if n.getLsbD 1 = true then WritePolicy.through else .staged) = c.writePolicy
      ∧ (if n.getLsbD 2 = true then Claim.exclusive else .shared) = c.claim
      ∧ (if n.getLsbD 3 = true then Stray.fault else .pass) = c.stray := by
  unfold Content.byteFive
  cases c.readPolicy <;> cases c.writePolicy <;> cases c.claim <;> cases c.stray <;> decide

theorem byteFive_encodes : ∀ five : Byte, five.toNat / 16 = 0 →
    BitVec.ofNat 8
      ((if five.getLsbD 0 = true then 1 else 0) + (if five.getLsbD 1 = true then 2 else 0)
        + (if five.getLsbD 2 = true then 4 else 0) + (if five.getLsbD 3 = true then 8 else 0)) = five := by
  decide

theorem leValue_two {n : Nat} (small : n < 65536) : leValue [BitVec.ofNat 8 n, BitVec.ofNat 8 (n / 256)] = n := by
  simp only [leValue, BitVec.toNat_ofNat]
  omega

theorem leValue_three {n : Nat} (small : n < 16777216) :
    leValue [BitVec.ofNat 8 n, BitVec.ofNat 8 (n / 256), BitVec.ofNat 8 (n / 256 / 256)] = n := by
  simp only [leValue, BitVec.toNat_ofNat]
  omega

theorem leBytes_two (b0 b1 : Byte) : leBytes 2 (leValue [b0, b1]) = [b0, b1] := by
  have second : (leValue [b0, b1]) / 256 = b1.toNat := by simp only [leValue]; omega
  have first : BitVec.ofNat 8 (leValue [b0, b1]) = b0 := by
    apply BitVec.eq_of_toNat_eq
    simp only [leValue, BitVec.toNat_ofNat]
    omega
  simp [leBytes, second, first]

theorem leBytes_three (b0 b1 b2 : Byte) : leBytes 3 (leValue [b0, b1, b2]) = [b0, b1, b2] := by
  have rest : (leValue [b0, b1, b2]) / 256 = leValue [b1, b2] := by simp only [leValue]; omega
  have first : BitVec.ofNat 8 (leValue [b0, b1, b2]) = b0 := by
    apply BitVec.eq_of_toNat_eq
    simp only [leValue, BitVec.toNat_ofNat]
    omega
  rw [leBytes, rest, leBytes_two, first]

/-- The ranges that a legal content keeps (R18). -/
theorem ranges_of_legal {c : Content} (legal : c.legal = true) :
    c.base < 1048576 ∧ c.length ≤ 32 ∧ c.snapshotLimit ≤ 4095 ∧ c.stagingLimit ≤ 4095 := by
  simp only [Content.legal, Bool.and_eq_true, decide_eq_true_eq] at legal
  obtain ⟨⟨⟨⟨⟨⟨base, -, length⟩, -⟩, -⟩, -⟩, -, snapshot⟩, -, staging⟩ := legal
  exact ⟨base, length, snapshot, staging⟩

/-- The ten bytes of an entry image. -/
theorem image_eq (c : Content) :
    c.image =
      [BitVec.ofNat 8 c.base, BitVec.ofNat 8 (c.base / 256), BitVec.ofNat 8 (c.base / 256 / 256), BitVec.ofNat 8 c.length,
        BitVec.ofNat 8 c.byteFour, BitVec.ofNat 8 c.byteFive, BitVec.ofNat 8 c.snapshotLimit,
        BitVec.ofNat 8 (c.snapshotLimit / 256), BitVec.ofNat 8 c.stagingLimit, BitVec.ofNat 8 (c.stagingLimit / 256)] := rfl

theorem contentOf_image {c : Content} (legal : c.legal = true) : contentOf c.image = some c := by
  obtain ⟨base, length, snapshot, staging⟩ := ranges_of_legal legal
  obtain ⟨high, order, writers⟩ := byteFour_decodes c.order c.writers
  obtain ⟨high', read, write, claim, stray⟩ := byteFive_decodes c
  have length' : (BitVec.ofNat 8 c.length).toNat = c.length := by rw [BitVec.toNat_ofNat]; omega
  simp only [image_eq, contentOf, Content.byteFour, high, high', order, writers, read, write, claim, stray, length',
    leValue_three (n := c.base) (by omega), leValue_two (n := c.snapshotLimit) (by omega),
    leValue_two (n := c.stagingLimit) (by omega), ne_eq, not_true_eq_false, or_self, if_false]

theorem image_of_contentOf {bs : List Byte} {c : Content} (decodes : contentOf bs = some c) : c.image = bs := by
  unfold contentOf at decodes
  split at decodes
  · next b0 b1 b2 len four five n0 n1 g0 g1 =>
    split at decodes
    · contradiction
    · next low =>
      obtain ⟨low, low'⟩ := not_or.mp low
      split at decodes
      · contradiction
      · next o order =>
        cases decodes
        have four' := byteFour_encodes four (not_not.mp low)
        rw [order] at four'
        have five' := byteFive_encodes five (not_not.mp low')
        have bits : ∀ b : Bool, (if b = true then ReadPolicy.through else .snapshot) = .through ↔ b = true := by decide
        have bits₁ : ∀ b : Bool, (if b = true then WritePolicy.through else .staged) = .through ↔ b = true := by decide
        have bits₂ : ∀ b : Bool, (if b = true then Claim.exclusive else .shared) = .exclusive ↔ b = true := by decide
        have bits₃ : ∀ b : Bool, (if b = true then Stray.fault else .pass) = .fault ↔ b = true := by decide
        simp only [Content.image, Content.byteFour, Content.byteFive, leBytes_two, leBytes_three, bits, bits₁, bits₂, bits₃,
          five', BitVec.ofNat_toNat, BitVec.setWidth_eq]
        rw [eq_of_beq four']
        rfl
  · contradiction

end Sys2Proof.Machine

namespace Sys2Proof.Proofs

open Sys2Proof Sys2Proof.Machine

/-- Settles O42: the bits pack to the frame with bytes after it, which the judging does not look at. -/
theorem frameBitsDecodeToTheirRow : Obligations.FrameBitsDecodeToTheirRow := by
  intro i code tag args more s wf frame
  have edge : unpackBytes (requestFrame code tag args) ++ more ≠ [] := by
    simp [requestFrame, unpackBytes]
  rw [exec_discardedFrame edge, exec_of_frame frame, packBits_unpackBytes]
  simp only [State.releaseSelect, judge_requestFrame_append code tag (fits_of_frame wf frame)]

/-- Settles O44. -/
theorem imageFixedAndNopChangesNothing : Obligations.ImageFixedAndNopChangesNothing := by
  refine ⟨fun image => ⟨⟨_, rfl⟩, ?_, fun k b here => ?_, fun k past => ?_⟩, rfl, fun s => ⟨fun high released => ?_,
    fun high during => ?_, fun low => ?_, ?_, fun tag args wf judges => ?_, fun i code tag args ignored frame => ?_⟩⟩
  · rw [← sumBytes_toNat, Image.bytes, Laws.sumBytes_checked]
    rfl
  · rw [Image.mdoByte, here]
    rfl
  · rw [Image.mdoByte, List.getElem?_eq_none past]
    rfl
  · change execMselnAssert s = _
    have image : s.link.image =
        if s.link.pendingMark = true then { tag := s.link.tag, status := .pending, results := [] }
        else { tag := s.link.tag, status := s.link.status, results := s.link.results } := rfl
    rw [execMselnAssert, high, ← image]
    dsimp only
    rw [Work.close_nil rfl, if_neg (by rw [released]; decide)]
    rfl
  · change execMselnAssert s = _
    rw [execMselnAssert, high]
    dsimp only
    rw [Work.close_nil rfl, if_pos during]
    rfl
  · change execMselnAssert s = _
    unfold execMselnAssert
    split
    · next high => exact absurd high low
    · rfl
  · change execRequestCompletion s = _
    rw [execRequestCompletion, Work.close_nil rfl]
    rfl
  · change Host.Outcome.next (s.releaseSelect (requestFrame 0 tag args)) = _
    have nop : judge (requestFrame 0 tag args) false = .nop :=
      (Laws.judge_requestFrame 0 tag args (of_decide_eq_true wf)).trans (if_pos rfl)
    rw [releaseSelect_of_judges judges, judge_nop nop, Work.carryOut, Work.finish_quiet rfl, deselect_close]
  · have apart : (s.inReset || s.link.select == .ignored) = true := by
      simpa [State.judgesFrame, or_iff_not_imp_left] using ignored
    rw [exec_of_frame frame, State.releaseSelect, if_pos apart, deselect_close]

/-- Settles O45. -/
theorem unknownCodeAndWrongLengthRefused : Obligations.UnknownCodeAndWrongLengthRefused := by
  intro s takes
  refine ⟨fun code tag args wf => ?_, fun cmd tag args fits wrong => ?_⟩
  · simp only [Instr.wellFormed, Bool.and_eq_true, bne_iff_ne, Option.isNone_iff_eq_none] at wf
    obtain ⟨⟨fits, other⟩, unknown⟩ := wf
    change Host.Outcome.next (s.releaseSelect (requestFrame code tag args)) = _
    rw [releaseSelect_requestFrame code tag takes (of_decide_eq_true fits) other, takeRequest_of_unchanged]
    simp [Work.decideRequest, unknown]
  · rw [exec_rowOf, releaseSelect_requestFrame _ tag takes fits (codeOfCommand_ne_zero cmd), takeRequest_of_unchanged]
    simp [Work.decideRequest, wrong]

/-- Settles O46: SET_TIMEBASE right after a tick writes the setting of the period that the tick has begun, so that it comes
out as where it is taken first. -/
theorem settingsWrittenOrRefused : Obligations.SettingsWrittenOrRefused := by
  intro s tag takes
  refine ⟨fun n => ?_, fun n quiet => ?_, exec_setRetry tag takes, exec_setAlert tag takes, exec_setHold tag takes⟩
  · refine (exec_setTimebase tag takes n).trans ?_
    split <;> rfl
  · obtain ⟨released, -, -⟩ := (takesRequest_iff s).mp takes
    have ticked : exec .tick s = .next s.countTick := exec_tick_of_notDue released quiet
    refine ⟨_, _, _, ticked, exec_setTimebase tag takes n, (exec_setTimebase (s := s.countTick) tag takes n).trans ?_,
      exec_tick_of_notDue ?_ ?_⟩
    · rw [← drivePins_countTick]
      split <;> rfl
    · split <;> exact released
    · split <;> exact quiet

/-- Settles O50. -/
theorem entryImageRoundTrip : Obligations.EntryImageRoundTrip := by
  refine ⟨fun c legal => contentOf_image legal, fun c => ?_, fun bs c decodes => image_of_contentOf decodes⟩
  have four : c.byteFour =
      (match c.order with | .any => 0 | .leadLow => 1 | .leadHigh => 2)
        + 4 * (match c.writers with | .noWriter => 0 | .a => 1 | .b => 2 | .ab => 3) := by
    unfold Content.byteFour
    cases c.order <;> cases c.writers <;> rfl
  have five : c.byteFive =
      (match c.readPolicy with | .snapshot => 0 | .through => 1)
        + (match c.writePolicy with | .staged => 0 | .through => 2)
        + (match c.claim with | .shared => 0 | .exclusive => 4)
        + (match c.stray with | .pass => 0 | .fault => 8) := by
    unfold Content.byteFive
    cases c.readPolicy <;> cases c.writePolicy <;> cases c.claim <;> cases c.stray <;> rfl
  have third : c.base / 65536 = c.base / 256 / 256 := by omega
  have image := image_eq c
  rw [four, five, ← third] at image
  exact image

end Sys2Proof.Proofs
end

section
/-! PROOFS. What the operations report, which held accesses they mark to be classified again, and what they leave in the terms
of the statements. -/

namespace Sys2Proof.Machine

open Sys2Proof

/-! ## Marks (R35, R37) -/

theorem perPort_ext {α : Type} {x y : PerPort α} (same : ∀ q, x.get q = y.get q) : x = y := by
  cases x
  cases y
  exact congrArg₂ PerPort.mk (same .a) (same .b)

/-- Nothing is marked. -/
theorem unmarked_iff (w : Work) : w.again = ⟨false, false⟩ ↔ ∀ q, w.again.get q = false := by
  refine ⟨fun none q => ?_, fun none => perPort_ext fun q => ?_⟩
  · rw [none]
    cases q <;> rfl
  · rw [none]
    cases q <;> rfl

section Marks
variable (w : Work) (p q : Port) (e : EntryIndex)

theorem notify_again (f : Held → Bool) :
    (w.notify p f).again.get q = (w.again.get q || (decide (q = p) && w.s.holds q f)) := by
  rw [Work.notify_eq]
  by_cases same : q = p
  · subst same
    cases h : w.s.holds q f <;> simp
  · split <;> simp [same, PerPort.get_set_ne]

theorem notifyBoth_again (f : Held → Bool) : (w.notifyBoth f).again.get q = (w.again.get q || w.s.holds q f) := by
  unfold Work.notifyBoth
  rw [notify_again, notify_again, Work.notify_s]
  cases q <;> simp

/-! ## Leavings (R15, R22) -/

/-- The report of the install of a replacement (R144). -/
def installReport (e : EntryIndex) (r : Replacement) : Report :=
  { source := .table e, kind := .entryInstalled, port := none, entry := some e, address := none, detail := some r.detail }

/-- What the leaving of a user reports: the install, if it is the last user of a DRAINING entry. -/
def leaveReports (e : EntryIndex) : Entry → List Report
  | .draining _ _ u r => if u ≤ 1 then [installReport e r] else []
  | _ => []

/-- Whether the leaving of a user concerns the port's held access. -/
def State.leaveMarks (s : State) (q : Port) (e : EntryIndex) : Bool :=
  match s.entry e with
  | .draining c _ u r => decide (u ≤ 1) && s.holds q fun h => h.concerned e (some c) r.content?
  | _ => false

theorem leave_reports : (w.leave e).reports = w.reports ++ leaveReports e (w.s.entry e) := by
  unfold Work.leave
  cases w.s.entry e with
  | draining c v u r =>
    dsimp only [leaveReports]
    split
    · simp [Work.installReplacement, installReport]
    · simp
  | _ => simp [leaveReports]

@[simp] theorem installed_content (r : Replacement) : r.installed.content? = r.content? := by cases r <;> rfl

theorem reseat_again (x : Entry) :
    (w.reseat e x).again.get q =
      (w.again.get q || w.s.holds q fun h => h.concerned e (w.s.entry e).content? x.content?) :=
  notifyBoth_again _ q _

theorem leave_again : (w.leave e).again.get q = (w.again.get q || w.s.leaveMarks q e) := by
  unfold Work.leave State.leaveMarks
  cases h : w.s.entry e with
  | draining c v u r =>
    dsimp only
    split
    · next last =>
      refine (reseat_again w q e r.installed).trans ?_
      rw [h, installed_content, decide_eq_true last, Bool.true_and]
      rfl
    · next more => simp [more]
  | _ => simp

/-- A leaving that marks nobody. -/
theorem leaveMarks_of_quiet {s : State} {e : EntryIndex} (quiet : s.leavesQuietly e = true) (q : Port) :
    s.leaveMarks q e = false := by
  unfold State.leavesQuietly at quiet
  unfold State.leaveMarks
  cases h : s.entry e with
  | draining c v u r =>
    rw [h] at quiet
    simp only [Bool.or_eq_true, decide_eq_true_eq, State.unconcerned, State.nobodyHeld, Bool.and_eq_true,
      Bool.not_eq_true'] at quiet
    rcases quiet with more | ⟨a, b⟩
    · simp [show ¬u ≤ 1 by omega]
    · cases q <;> simp [*]
  | _ => rfl

/-! ## Discards -/

theorem withdrawFill_again : (w.withdrawFill p e).again = w.again := by
  rw [withdrawFill_eq_setWaiting]
  rfl

theorem withdrawFill_reports : (w.withdrawFill p e).reports = w.reports := by
  rw [withdrawFill_eq_setWaiting]
  rfl

theorem dropSnapshot_reports {w : Work} {p : Port} {e : EntryIndex} {x : Snapshot} (on : w.s.snapshotOn p e = some x) :
    (w.dropSnapshot p e).reports = w.reports ++ leaveReports e (w.s.entry e) := by
  rw [Work.dropSnapshot_some on, leave_reports, Work.noticeSlot_reports, withdrawFill_reports, Work.noticeSlot_s,
    withdrawFill_eq_setWaiting]
  rfl

theorem dropSnapshot_again {w : Work} {p : Port} {e : EntryIndex} {x : Snapshot} (on : w.s.snapshotOn p e = some x)
    (q : Port) :
    (w.dropSnapshot p e).again.get q =
      (w.again.get q || (decide (q = p) && w.s.holds q fun h => h.cause == .slot) || w.s.leaveMarks q e) := by
  rw [Work.dropSnapshot_some on, leave_again, Work.noticeSlot, notify_again, Work.notify_s, withdrawFill_again,
    withdrawFill_eq_setWaiting]
  rfl

/-- Whether the discard of the port's record frees the claim of the entry (R87). -/
def State.claimFreed (s : State) (p : Port) (e : EntryIndex) : Bool :=
  decide (s.claims[e] = some p ∧ s.holdsRecord p e = false)

theorem releaseClaim_again :
    (w.releaseClaim p e).again.get q =
      (w.again.get q || (w.s.claimFreed p e && w.s.holds q fun h => h.cause == .claim && h.entry == some e)) := by
  unfold Work.releaseClaim State.claimFreed
  split
  · next freed =>
    refine (notifyBoth_again _ q _).trans ?_
    rw [decide_eq_true freed, Bool.true_and]
    rfl
  · next kept => rw [decide_eq_false kept, Bool.false_and, Bool.or_false]

theorem claimChecked_holds (s : State) (f : Held → Bool) : (s.claimChecked p e).holds q f = s.holds q f := by
  unfold State.holds
  rw [claimChecked_ports]

theorem claimChecked_leaveMarks (s : State) : (s.claimChecked p e).leaveMarks q e = s.leaveMarks q e := by
  unfold State.leaveMarks
  rw [claimChecked_entry]
  simp only [claimChecked_holds]

theorem dropRecord_reports {w : Work} {p : Port} {e : EntryIndex} {r : OpenRecord} (on : w.s.recordOn p e = some r) :
    (w.dropRecord p e).reports = w.reports ++ leaveReports e (w.s.entry e) := by
  rw [Work.dropRecord_some on, leave_reports, Work.releaseClaim_reports, Work.noticeRecord_reports, Work.releaseClaim_s,
    claimChecked_entry, Work.noticeRecord_s]
  rfl

theorem dropRecord_again {w : Work} {p : Port} {e : EntryIndex} {r : OpenRecord} (on : w.s.recordOn p e = some r)
    (q : Port) :
    (w.dropRecord p e).again.get q =
      (w.again.get q || (decide (q = p) && w.s.holds q fun h => h.cause == .record)
        || ((w.s.withRecs p ((w.s.recs.get p).eraseP fun r => r.entry == e)).claimFreed p e
          && w.s.holds q fun h => h.cause == .claim && h.entry == some e)
        || w.s.leaveMarks q e) := by
  rw [Work.dropRecord_some on, leave_again, releaseClaim_again, Work.releaseClaim_s, claimChecked_leaveMarks,
    Work.noticeRecord, notify_again, Work.notify_s]
  rfl

end Marks

/-! ## Openings and enqueuings report nothing and mark nobody -/

section Silent
variable (w : Work) (p : Port) (h : Held) (e : EntryIndex) (c : Content)

@[simp] theorem join_reports : (w.join e).reports = w.reports := by unfold Work.join; split <;> rfl
@[simp] theorem join_again : (w.join e).again = w.again := by unfold Work.join; split <;> rfl
@[simp] theorem takeHead_reports : w.takeHead.reports = w.reports := by
  unfold Work.takeHead
  split
  · rfl
  · split <;> rfl
@[simp] theorem takeHead_again : w.takeHead.again = w.again := by
  unfold Work.takeHead
  split
  · rfl
  · split <;> rfl
@[simp] theorem enqueue_reports (r : CommitRecord) : (w.enqueue r).reports = w.reports := by
  unfold Work.enqueue
  dsimp only
  split
  · rw [takeHead_reports]; rfl
  · rfl
@[simp] theorem enqueue_again (r : CommitRecord) : (w.enqueue r).again = w.again := by
  unfold Work.enqueue
  dsimp only
  split
  · rw [takeHead_again]; rfl
  · rfl
@[simp] theorem openSnapshot_reports : (w.openSnapshot p h e c).reports = w.reports := join_reports (w.setSnaps p _) e
@[simp] theorem openSnapshot_again : (w.openSnapshot p h e c).again = w.again := join_again (w.setSnaps p _) e
@[simp] theorem openRecord_reports : (w.openRecord p e c).reports = w.reports := by
  unfold Work.openRecord
  dsimp only
  split <;> exact join_reports (w.setRecs p _) e
@[simp] theorem openRecord_again : (w.openRecord p e c).again = w.again := by
  unfold Work.openRecord
  dsimp only
  split <;> exact join_again (w.setRecs p _) e
@[simp] theorem enterWrite_reports (bytes : List (Option Byte)) : (w.enterWrite p h e c bytes).reports = w.reports := by
  unfold Work.enterWrite
  dsimp only
  split
  · rw [enqueue_reports]; rfl
  · rfl
@[simp] theorem enterWrite_again (bytes : List (Option Byte)) : (w.enterWrite p h e c bytes).again = w.again := by
  unfold Work.enterWrite
  dsimp only
  split
  · rw [enqueue_again]; rfl
  · rfl
@[simp] theorem openAndEnter_reports : (w.openAndEnter p h e c).reports = w.reports := by
  rw [Work.openAndEnter, enterWrite_reports, openRecord_reports]
@[simp] theorem openAndEnter_again : (w.openAndEnter p h e c).again = w.again := by
  rw [Work.openAndEnter, enterWrite_again, openRecord_again]

end Silent

/-! ## The states they leave, in the terms of the statements -/

section States
variable {w : Work} {p : Port} {h : Held} {e : EntryIndex} {c : Content} {v : BitVec 16} {u : Nat}

/-- A snapshot opens on an ACTIVE entry (R44). -/
theorem openSnapshot_opens (active : w.s.entry e = .active c v u) :
    (w.openSnapshot p h e c).s = w.s.opensSnapshot p h e c v u := by
  rw [openSnapshot_s, active]
  rfl

/-- A record joins the queue of an entry with content (R78, R80). -/
theorem enqueue_queued {r : CommitRecord} (content : (w.s.entry r.entry).content? = some c) :
    (w.enqueue r).s = w.s.queued r c := by
  rw [enqueue_s, content]
  unfold State.queued
  cases head : w.s.queue <;> simp [State.withWaitingCommit]

theorem withBytes_of_ne {r : OpenRecord} {bytes : List (Option Byte)} (other : ¬(r.entry == e) = true) :
    withBytes e bytes r = r := if_neg (by simpa using other)

/-- The records of a port without one on the entry, after one is opened there and changed. -/
theorem map_withBytes_append {s : State} (none : s.recordOn p e = none) (bytes : List (Option Byte)) :
    (s.recs.get p ++ [freshRecord e c]).map (withBytes e bytes) =
      s.recs.get p ++ [{ freshRecord e c with bytes := bytes }] := by
  rw [List.map_append]
  congr 1
  · refine (List.map_congr_left fun r among => withBytes_of_ne ?_).trans (List.map_id _)
    exact List.find?_eq_none.mp none r among
  · simp [withBytes, freshRecord]

theorem eraseP_append_fresh {s : State} (none : s.recordOn p e = none) :
    (s.recs.get p ++ [freshRecord e c]).eraseP (fun r => r.entry == e) = s.recs.get p := by
  rw [List.eraseP_append_right _ (fun r among => by simpa using List.find?_eq_none.mp none r among)]
  simp [freshRecord]

/-- A write is entered into its port's OPEN record, and completes it where the mask is full (R71, R78). -/
theorem enterWrite_s (content : (w.s.entry e).content? = some c) (write : h.access.direction = .write)
    (bytes : List (Option Byte)) :
    (w.enterWrite p h e c bytes).s =
      if c.written (enterBytes bytes c h.access) = true then
        ((w.s.withPort p (if h.released = true then .idle else writtenOk h.access)).withRecs p
          ((w.s.recs.get p).eraseP fun r => r.entry == e)).queued
            { port := p, entry := e, bytes := enterBytes bytes c h.access } c
      else
        (w.s.withPort p (if h.released = true then .idle else writtenOk h.access)).withRecs p
          ((w.s.recs.get p).map (withBytes e (enterBytes bytes c h.access))) := by
  have answer : okAnswer h.access 0 = { error := false, data := none } := by simp [okAnswer, write]
  unfold Work.enterWrite
  dsimp only
  rw [answer]
  split
  · refine (enqueue_queued (c := c) (w := Work.setRecs _ _ _) ?_).trans rfl
    exact content
  · rfl

/-- The entry, the claim and the records after a record is opened on an ACTIVE entry (R72). -/
theorem openRecord_claims (active : w.s.entry e = .active c v u) :
    (w.openRecord p e c).s =
      if c.claim = .exclusive then
        ((w.s.withRecs p (w.s.recs.get p ++ [freshRecord e c])).withEntry e (.active c v (u + 1))).withClaim e (some p)
      else (w.s.withRecs p (w.s.recs.get p ++ [freshRecord e c])).withEntry e (.active c v (u + 1)) := by
  rw [openRecord_s, active]
  split
  · rfl
  · exact withClaim_self _ e

/-- A write opens a record on an ACTIVE entry, where its port has none, and is entered (R71, R72, R78). -/
theorem openAndEnter_opens (active : w.s.entry e = .active c v u) (fresh : w.s.recordOn p e = none)
    (write : h.access.direction = .write) : (w.openAndEnter p h e c).s = w.s.opensRecord p h e c v u := by
  have opened := openRecord_claims (p := p) active
  have recs : (w.openRecord p e c).s.recs.get p = w.s.recs.get p ++ [freshRecord e c] := by
    rw [opened]
    split <;> exact PerPort.get_set_same w.s.recs p _
  have content : ((w.openRecord p e c).s.entry e).content? = some c := by
    rw [opened]
    split <;> simp [Entry.content?]
  rw [Work.openAndEnter, enterWrite_s content write, recs, eraseP_append_fresh fresh, map_withBytes_append fresh, opened]
  unfold State.opensRecord
  by_cases exclusive : c.claim = .exclusive <;>
    by_cases full : c.written (enterBytes (List.replicate (4 * c.extent) none) c h.access) = true <;>
    simp only [exclusive, full, freshRecord, if_true, if_false, reduceCtorEq, State.queued, State.withRecs, State.withPort,
      State.withEntry, State.withClaim, PerPort.set_set, PerPort.set_get]

end States

end Sys2Proof.Machine
end

section
/-! PROOFS. The outcomes of a classification in section 2.1, one lemma per outcome; a held access classified again (R36); and
what an event leaves in which a user leaves an entry. -/

namespace Sys2Proof.Machine

open Sys2Proof

/-! ## Openers (R44, R45, R72, R73, R88) -/

section Openers
variable {w : Work} (p : Port) (h : Held) (e : EntryIndex) (c : Content)

theorem snapshotOpener_draining : w.snapshotOpener p h e c true = w.hold p h .drain (some e) := rfl

theorem snapshotOpener_full (full : 4 ≤ (w.s.snaps.get p).length) :
    w.snapshotOpener p h e c false = w.hold p h .slot (some e) := if_pos full

theorem snapshotOpener_room (room : (w.s.snaps.get p).length < 4) :
    w.snapshotOpener p h e c false = w.openSnapshot p h e c := if_neg (Nat.not_le.mpr room)

theorem recordOpener_draining : w.recordOpener p h e c true = w.hold p h .drain (some e) := rfl

theorem recordOpener_claimed (claimed : c.claim = .exclusive ∧ w.s.claims[e] = some p.other) :
    w.recordOpener p h e c false = w.hold p h .claim (some e) := if_pos claimed

theorem recordOpener_full (unclaimed : ¬(c.claim = .exclusive ∧ w.s.claims[e] = some p.other))
    (full : 4 ≤ w.s.recordsInUse p) : w.recordOpener p h e c false = w.hold p h .record (some e) :=
  (if_neg unclaimed).trans (if_pos full)

theorem recordOpener_room (unclaimed : ¬(c.claim = .exclusive ∧ w.s.claims[e] = some p.other))
    (room : w.s.recordsInUse p < 4) : w.recordOpener p h e c false = w.openAndEnter p h e c :=
  (if_neg unclaimed).trans (if_neg (Nat.not_le.mpr room))

end Openers

/-! ## What a classification comes to (R28 to R33, R43, R70) -/

section Outcomes
variable {w : Work} {p : Port} {h : Held} {e : EntryIndex} {c : Content} {d : Bool} {v : BitVec 16} {u : Nat}

theorem serves_of_active {s : State} (active : s.entry e = .active c v u) : s.serves e c false = true := by
  simp [State.serves, active]

theorem opens_iff (a : Access) (c : Content) : a.opens c = true ↔ c.order = .any ∨ a.touchesLead c = true := by
  simp [Access.opens]

theorem classify_unfound (unfound : w.s.lookup h.access.word = none) : w.classify p h = w.plain p h none := by
  simp [Work.classify, unfound]

/-- A read is handed to the snapshot unit (R32). -/
theorem classify_snapshotRead (found : w.s.lookup h.access.word = some e) (serves : w.s.serves e c d = true)
    (read : h.access.direction ≠ .write) (bytes : h.access.objectBytes c ≠ []) (free : w.s.ownsCommit p e = false)
    (policy : c.readPolicy = .snapshot) : w.classify p h = w.snapshotRead p h e c d := by
  rw [Work.classify_serves found serves, Work.classifyOn_read read bytes free, policy]

/-- A write is handed to the staging unit (R33). -/
theorem classify_stagingWrite (found : w.s.lookup h.access.word = some e) (serves : w.s.serves e c d = true)
    (write : h.access.direction = .write) (bytes : h.access.objectBytes c ≠ []) (unread : w.s.snapshotOn p e = none)
    (allowed : c.allows p = true) (policy : c.writePolicy = .staged) : w.classify p h = w.stagingWrite p h e c d := by
  rw [Work.classify_serves found serves, Work.classifyOn_write serves write bytes unread allowed, policy]

theorem snapshotRead_opener (fresh : w.s.snapshotOn p e = none) (opens : h.access.opens c = true) :
    w.snapshotRead p h e c d = w.snapshotOpener p h e c d := by
  have opener := (opens_iff _ _).mp opens
  simp [Work.snapshotRead, fresh, opener]

theorem snapshotRead_opened {x : Snapshot} {data : List Word} {coverage : List Nat} {timer : Timer}
    (on : w.s.snapshotOn p e = some x) (opened : x.state = .opened data coverage timer) :
    w.snapshotRead p h e c d =
      if h.access.restarts c coverage = true then w.snapshotRestart p h e c d
      else w.snapshotServe p h e c data coverage := by
  simp only [Work.snapshotRead, on, Option.map_some, opened, Access.restarts]
  rfl

theorem stagingWrite_opener (fresh : w.s.recordOn p e = none) (opens : h.access.opens c = true) :
    w.stagingWrite p h e c d = w.recordOpener p h e c d := by
  have opener := (opens_iff _ _).mp opens
  simp [Work.stagingWrite, fresh, opener]

theorem stagingWrite_open {r : OpenRecord} (on : w.s.recordOn p e = some r) :
    w.stagingWrite p h e c d =
      if h.access.touchesLead c = true then w.recordRestart p h e c d r.bytes else w.enterWrite p h e c r.bytes := by
  simp only [Work.stagingWrite, on, Option.map_some]

theorem readOpens_iff {s : State} {a : Access} :
    s.readOpens p a e c = true ↔
      a.direction ≠ .write ∧ a.objectBytes c ≠ [] ∧ s.ownsCommit p e = false ∧ c.readPolicy = .snapshot
        ∧ s.snapshotOn p e = none ∧ a.opens c = true ∧ (s.snaps.get p).length < 4 := by
  simp [State.readOpens, and_assoc]

theorem writeOpens_iff {s : State} {a : Access} :
    s.writeOpens p a e c = true ↔
      a.direction = .write ∧ a.objectBytes c ≠ [] ∧ s.snapshotOn p e = none ∧ c.allows p = true ∧ c.writePolicy = .staged
        ∧ s.recordOn p e = none ∧ a.opens c = true ∧ ¬(c.claim = .exclusive ∧ s.claims[e] = some p.other)
        ∧ s.recordsInUse p < 4 := by
  simp [State.writeOpens, and_assoc, imp_iff_not_or]

/-- A read that opens its snapshot now (R43, R44). -/
theorem classify_readOpens (found : w.s.lookup h.access.word = some e) (active : w.s.entry e = .active c v u)
    (opens : w.s.readOpens p h.access e c = true) : w.classify p h = w.openSnapshot p h e c := by
  obtain ⟨read, bytes, free, policy, fresh, opener, room⟩ := readOpens_iff.mp opens
  rw [classify_snapshotRead found (serves_of_active active) read bytes free policy, snapshotRead_opener fresh opener,
    snapshotOpener_room p h e c room]

/-- A write that opens its record now (R70, R72). -/
theorem classify_writeOpens (found : w.s.lookup h.access.word = some e) (active : w.s.entry e = .active c v u)
    (opens : w.s.writeOpens p h.access e c = true) : w.classify p h = w.openAndEnter p h e c := by
  obtain ⟨write, bytes, unread, allowed, policy, fresh, opener, unclaimed, room⟩ := writeOpens_iff.mp opens
  rw [classify_stagingWrite found (serves_of_active active) write bytes unread allowed policy,
    stagingWrite_opener fresh opener, recordOpener_room p h e c unclaimed room]

/-- A read of padding alone, or under THROUGH, goes plain (R30, R32). -/
theorem classifyOn_read_plain (read : h.access.direction ≠ .write)
    (why : h.access.objectBytes c = [] ∨ (w.s.ownsCommit p e = false ∧ c.readPolicy = .through)) :
    w.classifyOn p h e c d = w.plain p h (some e) := by
  rcases why with padding | ⟨free, through⟩
  · simp [Work.classifyOn, read, padding]
  · by_cases padding : h.access.objectBytes c = []
    · simp [Work.classifyOn, read, padding]
    · rw [Work.classifyOn_read read padding free, through]

/-- A write of padding alone, or one that passes the writers check under THROUGH, goes plain (R30, R33). -/
theorem classifyOn_write_plain (serves : w.s.serves e c d = true) (write : h.access.direction = .write)
    (unread : w.s.snapshotOn p e = none)
    (why : h.access.objectBytes c = [] ∨ (c.allows p = true ∧ c.writePolicy = .through)) :
    w.classifyOn p h e c d = w.plain p h (some e) := by
  rcases why with padding | ⟨allowed, through⟩
  · simp [Work.classifyOn, write, padding, Work.dropSnapshot_none unread, State.serves_isDraining serves]
  · by_cases padding : h.access.objectBytes c = []
    · simp [Work.classifyOn, write, padding, Work.dropSnapshot_none unread, State.serves_isDraining serves]
    · rw [Work.classifyOn_write serves write padding unread allowed, through]

/-- A live entry has the content it serves. -/
theorem content_of_serves {s : State} (serves : s.serves e c d = true) : (s.entry e).content? = some c := by
  unfold State.serves at serves
  split at serves <;> simp_all [Entry.content?]

end Outcomes

/-! ## Requests withdrawn (R50, R103) -/

section Withdrawals
variable {w : Work} {p : Port} {t : Transfer}

theorem withdraw_plain (waits : w.s.mem.waiting.get p = some t) (plain : ∀ q a f, t.purpose ≠ .fill q a f) :
    w.withdraw p = w.setWaiting p none := by
  unfold Work.withdraw
  simp only [waits]

theorem withdraw_fill {q : Port} {a : ByteAddr} {e : EntryIndex} (waits : w.s.mem.waiting.get p = some t)
    (fill : t.purpose = .fill q a e) : w.withdraw p = (w.setWaiting p none).dropSnapshot p e := by
  unfold Work.withdraw
  simp only [waits, fill]

/-- A request that is no fill is withdrawn alone. -/
theorem withdraw_unfilled (plain : ∀ t q a f, w.s.mem.waiting.get p = some t → t.purpose ≠ .fill q a f) :
    w.withdraw p = w.setWaiting p none := by
  cases waits : w.s.mem.waiting.get p with
  | none =>
    rw [Work.withdraw_none waits]
    unfold Work.setWaiting
    rw [← waits, PerPort.set_get]
    rfl
  | some t => exact withdraw_plain waits fun q a f => plain t q a f waits

theorem not_fill_of_noFillAsked {s : State} {p : Port} {t : Transfer} (unasked : s.noFillAsked p = true) (q : Port)
    (a : ByteAddr) (f : EntryIndex) (waits : s.mem.waiting.get p = some t) : t.purpose ≠ .fill q a f := fun fill => by
  simp [State.noFillAsked, waits, fill] at unasked

end Withdrawals

/-! ## A held access classified again (R36, R37) -/

/-- What the classification again of the access `h` held at a port leads to, where it opens a snapshot or a record or goes
plain. -/
def State.goesOn (s : State) (p : Port) (h : Held) (t : State) : Prop :=
  (s.lookup h.access.word = none ∧ t = (s.withWaiting p none).asksPlain p h none)
    ∨ ∃ e c v u, s.lookup h.access.word = some e ∧ s.entry e = .active c v u
        ∧ ((s.readOpens p h.access e c = true ∧ t = (s.withWaiting p none).opensSnapshot p h e c v u)
          ∨ (s.writeOpens p h.access e c = true ∧ t = (s.withWaiting p none).opensRecord p h e c v u)
          ∨ (h.access.direction ≠ .write ∧ h.access.objectBytes c ≠ [] ∧ s.ownsCommit p e = false
            ∧ c.readPolicy = .through ∧ t = (s.withWaiting p none).asksPlain p h (some e)))

/-- The work with a port's access taken off its hold, its mark and its request gone. -/
def Work.unheld (w : Work) (p : Port) : Work := ((w.setAgain p false).setPortState p .idle).setWaiting p none

section Again
variable {w : Work} {p : Port} {h : Held} {t : State}

/-- A held access whose port waits for no fill loses its request, and is classified as at its arrival. -/
theorem reclassify_held (held : (w.s.ports.get p).state = .held h) (unasked : w.s.noFillAsked p = true) :
    w.reclassify p = (w.unheld p).classify p h := by
  have dropped : ((w.setAgain p false).setPortState p .idle).withdraw p = w.unheld p :=
    withdraw_unfilled fun _ => not_fill_of_noFillAsked unasked
  simp only [Work.reclassify, held, dropped]

theorem reclassify_goesOn (held : (w.s.ports.get p).state = .held h) (unasked : w.s.noFillAsked p = true)
    (leads : w.s.goesOn p h t) :
    (w.reclassify p).s = t ∧ (w.reclassify p).reports = w.reports ∧ (w.reclassify p).again = w.again.set p false := by
  rw [reclassify_held held unasked]
  rcases leads with ⟨unfound, rfl⟩ | ⟨e, c, v, u, found, active, ⟨opens, rfl⟩ | ⟨opens, rfl⟩ | ⟨read, bytes, free, through, rfl⟩⟩
  · rw [classify_unfound (w := w.unheld p) unfound]
    exact ⟨by cases p <;> rfl, rfl, rfl⟩
  · rw [classify_readOpens (w := w.unheld p) found active opens]
    exact ⟨(openSnapshot_opens (w := w.unheld p) active).trans (by cases p <;> rfl), openSnapshot_reports .., openSnapshot_again ..⟩
  · obtain ⟨write, -, -, -, -, fresh, -⟩ := writeOpens_iff.mp opens
    rw [classify_writeOpens (w := w.unheld p) found active opens]
    exact ⟨(openAndEnter_opens (w := w.unheld p) active fresh write).trans (by cases p <;> rfl),
      openAndEnter_reports .., openAndEnter_again ..⟩
  · rw [Work.classify_serves (w := w.unheld p) found (serves_of_active (s := (w.unheld p).s) active),
      classifyOn_read_plain (w := w.unheld p) read (.inr ⟨free, through⟩)]
    exact ⟨by cases p <;> rfl, rfl, rfl⟩

/-- The marks without the only one. -/
theorem cleared_of_alone {m : PerPort Bool} (alone : m.get p.other = false) : m.set p false = ⟨false, false⟩ := by
  cases m
  cases p <;> cases alone <;> rfl

/-- Where one access alone is to be classified again, and goes on, the event ends with what that leads to. -/
theorem finish_goesOn (held : (w.s.ports.get p).state = .held h) (unasked : w.s.noFillAsked p = true)
    (marked : w.again.get p = true) (alone : w.again.get p.other = false) (leads : w.s.goesOn p h t) :
    ∃ x : Work, x.s = t ∧ x.reports = w.reports ∧ w.finish = x.close := by
  obtain ⟨state, reports, again⟩ := reclassify_goesOn held unasked leads
  have done : (w.reclassify p).again = ⟨false, false⟩ := again.trans (cleared_of_alone alone)
  have one : w.finish = (w.reclassify p).close := by
    unfold Work.finish Config.settleFuel
    cases p <;> simp_all [settle]
  exact ⟨w.reclassify p, state, reports, one⟩

section Ends
variable (held : (w.s.ports.get p).state = .held h) (unasked : w.s.noFillAsked p = true) (marked : w.again.get p = true)
  (alone : w.again.get p.other = false) (leads : w.s.goesOn p h t)
include held unasked marked alone leads

theorem finish_goesOn_nil (reports : w.reports = []) : w.finish = t.drivePins := by
  obtain ⟨x, state, same, finish⟩ := finish_goesOn held unasked marked alone leads
  rw [finish, Work.close_nil (same.trans reports), state]

theorem finish_goesOn_one {x : Report} (reports : w.reports = [x]) :
    w.finish = State.drivePins { t with events := t.events.enter x } := by
  obtain ⟨y, state, same, finish⟩ := finish_goesOn held unasked marked alone leads
  rw [finish, Work.close_one (same.trans reports), state]

theorem finish_goesOn_two {x y : Report} (reports : w.reports = [x, y]) (apart : y.source ≠ x.source) :
    t.recordedEither x y w.finish := by
  obtain ⟨z, state, same, finish⟩ := finish_goesOn held unasked marked alone leads
  rw [finish, ← state]
  exact Work.close_two (same.trans reports) apart

end Ends

end Again

/-- What an access held there goes on to that finds entry `e` with a new content (R145). -/
theorem goesOn_installed {s t : State} {p : Port} {h : Held} {e : EntryIndex} {c : Content} {v : BitVec 16} {u : Nat}
    (found : s.lookup h.access.word = some e) (active : s.entry e = .active c v u)
    (opens : (s.readOpens p h.access e c = true ∧ t = (s.withWaiting p none).opensSnapshot p h e c v u)
      ∨ (s.writeOpens p h.access e c = true ∧ t = (s.withWaiting p none).opensRecord p h e c v u)) : s.goesOn p h t :=
  .inr ⟨e, c, v, u, found, active, opens.imp_right .inl⟩

/-! ## Leavings that mark nobody -/

section Unmarked
variable {w : Work} {s t : State} {p q : Port} {e : EntryIndex}

theorem leaveMarks_of_keepsContent (keeps : s.keepsContent e = true) (q : Port) : s.leaveMarks q e = false := by
  unfold State.keepsContent at keeps
  unfold State.leaveMarks
  cases h : s.entry e with
  | draining c v u r =>
    simp only [h, decide_eq_true_eq] at keeps
    simp [show ¬u ≤ 1 by omega]
  | _ => rfl

/-- A port whose access is not HELD holds nothing. -/
theorem holds_of_unheld (unheld : ∀ h, (s.ports.get p).state ≠ .held h) (f : Held → Bool) : s.holds p f = false := by
  unfold State.holds
  split
  · next h held => exact absurd held (unheld h)
  · rfl

theorem withPort_state (s : State) (p : Port) (x : PortState) : ((s.withPort p x).ports.get p).state = x := by
  simp [State.withPort]

theorem withArrival_state (s : State) (p : Port) (x : PortState) : ((s.withArrival p x).ports.get p).state = x := by
  simp [State.withArrival]

/-- A port whose access stays as it is is marked by a leaving as before. -/
theorem leaveMarks_congr (port : (t.ports.get q).state = (s.ports.get q).state) (entry : t.entry e = s.entry e) :
    t.leaveMarks q e = s.leaveMarks q e := by
  simp only [State.leaveMarks, State.holds, entry, port]

theorem withArrival_other (s : State) (p : Port) (x : PortState) :
    ((s.withArrival p x).ports.get p.other).state = (s.ports.get p.other).state := by
  simp [State.withArrival]

theorem withPort_other (s : State) (p : Port) (x : PortState) :
    ((s.withPort p x).ports.get p.other).state = (s.ports.get p.other).state := by
  simp [State.withPort]

theorem dropSnapshot_unmarked {x : Snapshot} (on : w.s.snapshotOn p e = some x) (unmarked : w.again = ⟨false, false⟩)
    (slotless : w.s.holds p (fun h => h.cause == .slot) = false) (quiet : ∀ q, w.s.leaveMarks q e = false) :
    (w.dropSnapshot p e).again = ⟨false, false⟩ := by
  rw [unmarked_iff] at unmarked ⊢
  intro q
  rw [dropSnapshot_again on, unmarked, quiet]
  by_cases same : q = p
  · subst same
    simp [slotless]
  · simp [same]

theorem leaveMarks_of_unheld (unheld : ∀ h, (s.ports.get q).state ≠ .held h) : s.leaveMarks q e = false := by
  unfold State.leaveMarks
  split
  · rw [holds_of_unheld unheld, Bool.and_false]
  · rfl

/-- A port whose access is not HELD loses a snapshot, and the leaving does not concern the other port. -/
theorem dropSnapshot_finish {x : Snapshot} (on : w.s.snapshotOn p e = some x) (unmarked : w.again = ⟨false, false⟩)
    (unheld : ∀ h, (w.s.ports.get p).state ≠ .held h) (quiet : w.s.leaveMarks p.other e = false) :
    (w.dropSnapshot p e).finish = (w.dropSnapshot p e).close := by
  refine Work.finish_quiet (dropSnapshot_unmarked on unmarked (holds_of_unheld unheld _) fun q => ?_)
  by_cases same : q = p
  · exact same ▸ leaveMarks_of_unheld unheld
  · exact eq_other_of_ne same ▸ quiet

/-- A snapshot leaves whose port waits for no fill of the entry. -/
theorem dropSnapshot_left {x : Snapshot} (on : w.s.snapshotOn p e = some x) (unasked : w.s.noFillWaits p e = true) :
    (w.dropSnapshot p e).s = State.left (w.s.withSnaps p ((w.s.snaps.get p).eraseP fun y => y.entry == e)) e := by
  have waits : w.s.fillWithdrawn p e = w.s.mem.waiting.get p := if_pos unasked
  have kept : ∀ l, (w.s.withSnaps p l).withWaiting p (w.s.mem.waiting.get p) = w.s.withSnaps p l := fun l => by
    simp [State.withWaiting, State.withSnaps]
  rw [dropSnapshot_s on, waits, kept]

end Unmarked

/-! ## The events of a leaving -/

section Leaving
variable {w : Work} {t : State} {e : EntryIndex} {x : Report}

theorem leaveReports_of_keepsContent (keeps : t.keepsContent e = true) : leaveReports e (t.entry e) = [] := by
  unfold State.keepsContent at keeps
  unfold leaveReports
  split <;> simp_all
  omega

/-- A leaving that installs nothing. -/
theorem userLeft_of_keepsContent (keeps : t.keepsContent e = true) : t.userLeft e = t.left e := by
  unfold State.keepsContent at keeps
  cases entry : t.entry e with
  | active c v u =>
    have claim : (t.withEntry e (.active c v (u - 1))).withClaim e t.claims[e] = _ := withClaim_self (t.withEntry e _) e
    simp only [State.userLeft, State.left, entry, Entry.left, Entry.holderLeft, claim]
  | draining c v u r =>
    have claim : (t.withEntry e (.draining c v (u - 1) r)).withClaim e t.claims[e] = _ := withClaim_self (t.withEntry e _) e
    simp only [entry, decide_eq_true_eq] at keeps
    have more : ¬u ≤ 1 := by omega
    simp only [State.userLeft, State.left, entry, Entry.left, Entry.holderLeft, if_pos keeps, if_neg more, claim]
  | _ => simp [entry] at keeps

theorem left_of_last {c : Content} {v : BitVec 16} {u : Nat} {r : Replacement} (entry : t.entry e = .draining c v u r)
    (last : u ≤ 1) : t.left e = t.installedAs e r.installed ∧ leaveReports e (t.entry e) = [installReport e r] := by
  simp only [State.left, entry, Entry.left, Entry.holderLeft, leaveReports, if_pos last]
  exact ⟨rfl, trivial⟩

/-- An entry without users loses none. -/
theorem left_of_userless (inactive : ∀ c v u, t.entry e ≠ .active c v u) (undrained : ∀ c v u r, t.entry e ≠ .draining c v u r) :
    t.left e = t := by
  have kept : (t.entry e).left = t.entry e ∧ (t.entry e).holderLeft t.claims[e] = t.claims[e] := by
    cases h : t.entry e with
    | active c v u => exact absurd h (inactive c v u)
    | draining c v u r => exact absurd h (undrained c v u r)
    | _ => exact ⟨rfl, rfl⟩
  rw [State.left, kept.1, kept.2, withEntry_self, withClaim_self]

/-- A user leaves and nothing else is reported (R15, R22, R144). -/
theorem close_left (state : w.s = t.left e) (reports : w.reports = leaveReports e (t.entry e)) :
    w.close = (t.userLeft e).drivePins := by
  by_cases keeps : t.keepsContent e = true
  · rw [Work.close_nil (reports.trans (leaveReports_of_keepsContent keeps)), state, userLeft_of_keepsContent keeps]
  · cases entry : t.entry e with
    | active c v u => simp [State.keepsContent, entry] at keeps
    | draining c v u r =>
      have last : u ≤ 1 := by
        simp only [State.keepsContent, entry, decide_eq_true_eq] at keeps
        omega
      obtain ⟨installed, report⟩ := left_of_last entry last
      rw [Work.close_one (reports.trans report), state, installed]
      simp only [State.userLeft, entry, if_neg (show ¬2 ≤ u by omega)]
      rfl
    | empty =>
      rw [Work.close_nil (by rw [reports, entry]; rfl), state, left_of_userless (by simp [entry]) (by simp [entry])]
      simp only [State.userLeft, entry]
    | poisoned c v r k =>
      rw [Work.close_nil (by rw [reports, entry]; rfl), state, left_of_userless (by simp [entry]) (by simp [entry])]
      simp only [State.userLeft, entry]

/-- A report and a leaving that installs nothing. -/
theorem close_reported_left (state : w.s = t.left e) (reports : w.reports = x :: leaveReports e (t.entry e))
    (keeps : t.keepsContent e = true) :
    w.close = (State.userLeft { t with events := t.events.enter x } e).drivePins := by
  rw [leaveReports_of_keepsContent keeps] at reports
  rw [Work.close_one reports, state, userLeft_of_keepsContent (t := { t with events := t.events.enter x }) keeps]
  rfl

/-- A report and a leaving that installs the replacement, in one event (R159; log 6). -/
theorem close_reported_installed {c : Content} {v : BitVec 16} {u : Nat} {r : Replacement}
    (state : w.s = t.left e) (reports : w.reports = x :: leaveReports e (t.entry e))
    (entry : t.entry e = .draining c v u r) (last : u ≤ 1) (apart : x.source ≠ .table e) :
    (t.installedAs e r.installed).recordedEither x (installReport e r) w.close := by
  obtain ⟨installed, report⟩ := left_of_last entry last
  rw [report] at reports
  rw [installed] at state
  rw [← state]
  exact Work.close_two reports apart.symm

end Leaving

end Sys2Proof.Machine
end

section
/-! PROOFS. The access a port takes, from its capture to its first classification, and the statements O7, O11, O12, O13, O14,
O17, O18, O19. -/

namespace Sys2Proof.Proofs

open Sys2Proof Sys2Proof.Machine

section Arrivals
variable {i : Instr} {s : State} {p : Port} {a : Access} {e : EntryIndex} {c : Content} {d : Bool} {w : Work} {t : State}

/-- An arrival whose classification reports nothing and concerns no held access. -/
theorem exec_of_classify (arrives : arrivalOf i s = some (p, a))
    (outcome : (s.begin.arrive p).classify p (arrival a) = w) (silent : w.reports = []) (quiet : w.again = ⟨false, false⟩)
    (state : w.s = t) : exec i s = .next t.drivePins := by
  rw [(exec_arrival arrives).1, outcome, Work.finish_quiet quiet, Work.close_nil silent, state]

/-- An arrival that is held with a cause. -/
theorem exec_of_held {cause : HoldCause} {entry : Option EntryIndex} (arrives : arrivalOf i s = some (p, a))
    (outcome : (s.begin.arrive p).classify p (arrival a) = (s.begin.arrive p).hold p (arrival a) cause entry) :
    exec i s = .next (State.drivePins (s.withArrival p (heldAs a cause entry))) :=
  exec_of_classify arrives outcome rfl rfl (arrive_setPortState_s s p _)

/-! ## What an arrival captures -/

theorem getLsbD_laneSet {k l : Nat} (hk : k < 4) (hl : l < 4) : (laneSet k).getLsbD l = true ↔ l = k := by
  interval_cases k <;> interval_cases l <;> decide

theorem directionOf_iff (strobes : Strobes) :
    (directionOf strobes = .read ↔ strobes = .read) ∧ (directionOf strobes = .write ↔ strobes = .write) := by
  cases strobes <;> decide

/-- The lowest enabled lane is the one below which none is enabled. -/
theorem lowestLane_eq {lanes : BitVec 4} {l : Nat} (small : l < 4) (enabled : lanes.getLsbD l = true)
    (lowest : ∀ m, m < l → lanes.getLsbD m = false) : lowestLane lanes = l := by
  interval_cases l <;> revert lanes <;> decide

theorem byteLane_and (x y : Word) (l : Nat) : byteLane (x &&& y) l = byteLane x l &&& byteLane y l := by
  ext i hi
  simp [byteLane]

/-- The mask of a lane set holds all the bits of its lanes and none of the others. -/
theorem byteLane_laneMask {lanes : BitVec 4} {l : Nat} (small : l < 4) :
    byteLane (laneMask lanes) l = if lanes.getLsbD l = true then 0xff else 0 := by
  interval_cases l <;> revert lanes <;> decide

theorem byteLane_masked (data : Word) {lanes : BitVec 4} {l : Nat} (small : l < 4) :
    byteLane (data &&& laneMask lanes) l = if lanes.getLsbD l = true then byteLane data l else 0 := by
  rw [byteLane_and, byteLane_laneMask small]
  split
  · exact BitVec.and_allOnes
  · simp

/-! ## What a lookup returns (R2) -/

theorem holdsWord_covers {x : Entry} {n : Nat} (holds : x.holdsWord n) : ∃ c ∈ x.reserved, c.covers n = true := by
  have covered := Entry.holdsWord_iff.mp holds
  cases x with
  | empty => exact holds.elim
  | active c v u => exact ⟨c, List.mem_cons_self .., covered⟩
  | draining c v u r => exact ⟨c, List.mem_cons_self .., covered⟩
  | poisoned c v r k => exact ⟨c, List.mem_cons_self .., covered⟩

/-- Where no two entries share a word, one entry alone holds it (R19). -/
theorem eq_of_holdsWord {x y : EntryIndex} {n : Nat} (disjoint : s.disjoint) (hx : (s.entry x).holdsWord n)
    (hy : (s.entry y).holdsWord n) : x = y := by
  by_contra ne
  obtain ⟨c, inX, coversC⟩ := holdsWord_covers hx
  obtain ⟨d, inY, coversD⟩ := holdsWord_covers hy
  have apart := disjoint x y ne c inX d inY
  simp only [Content.covers, Content.overlaps, Bool.and_eq_true, decide_eq_true_eq, Bool.and_eq_false_iff,
    decide_eq_false_iff_not] at coversC coversD apart
  omega

theorem holdsWord_of_lookup {n : WordAddr} (found : s.lookup n = some e) : (s.entry e).holdsWord n.toNat :=
  Entry.holdsWord_iff.mpr (List.find?_some (p := fun e => coversOpt (s.entry e).content? n.toNat) found)

theorem not_holdsWord_of_lookup {n : WordAddr} (unfound : s.lookup n = none) (e : EntryIndex) :
    ¬(s.entry e).holdsWord n.toNat :=
  fun holds => List.find?_eq_none.mp unfound e (List.mem_finRange e) (Entry.holdsWord_iff.mp holds)

theorem lookup_of_holdsWord {n : WordAddr} (disjoint : s.disjoint) (holds : (s.entry e).holdsWord n.toNat) :
    s.lookup n = some e := by
  cases found : s.lookup n with
  | none => exact absurd holds (not_holdsWord_of_lookup found e)
  | some f => rw [eq_of_holdsWord disjoint (holdsWord_of_lookup found) holds]

end Arrivals

theorem captureA_sound (strobes : Strobes) (addr : ByteAddr) (data : Byte) (limit : Nat) :
    let a := captureA strobes addr data limit
    a.word.toNat = addr.toNat / 4 ∧ (∀ l, l < 4 → (a.lanes.getLsbD l = true ↔ l = addr.toNat % 4))
      ∧ a.address = addr ∧ a.limit = limit
      ∧ (a.direction = .read ↔ strobes = .read) ∧ (a.direction = .write ↔ strobes = .write)
      ∧ (strobes = .write → byteLane a.data (addr.toNat % 4) = data) := by
  have lane : addr.toNat % 4 < 4 := Nat.mod_lt _ (by decide)
  have word : (BitVec.ofNat 20 (addr.toNat / 4)).toNat = addr.toNat / 4 := by
    rw [BitVec.toNat_ofNat]
    omega
  refine ⟨word, fun l small => getLsbD_laneSet lane small, rfl, rfl, (directionOf_iff strobes).1,
    (directionOf_iff strobes).2, ?_⟩
  rintro rfl
  exact (byteLane_onLane data lane lane).trans (if_pos rfl)

theorem captureB_sound (word : WordAddr) (isWrite : Bool) (enabled : BitVec 4) (data : Word) (limit : Nat) :
    let a := captureB word isWrite enabled data limit
    a.word = word ∧ a.lanes = enabled ∧ a.limit = limit ∧ a.direction = (if isWrite = true then .write else .read)
      ∧ (∀ l, l < 4 → enabled.getLsbD l = true → (∀ m, m < l → enabled.getLsbD m = false) →
          a.address.toNat = 4 * word.toNat + l)
      ∧ (enabled = 0 → a.address.toNat = 4 * word.toNat)
      ∧ ∀ l, l < 4 → isWrite = true →
          byteLane a.data l = if enabled.getLsbD l = true then byteLane data l else 0 := by
  have address : ∀ l, l < 4 → (BitVec.ofNat 22 (4 * word.toNat + l)).toNat = 4 * word.toNat + l := fun l small => by
    rw [BitVec.toNat_ofNat]
    omega
  refine ⟨rfl, rfl, rfl, rfl, fun l small on lowest => ?_, ?_, ?_⟩
  · have low := address l small
    rwa [← lowestLane_eq small on lowest] at low ⊢
  · rintro rfl
    exact address 0 (by decide)
  · rintro l small rfl
    exact byteLane_masked data small

/-- Settles O7. A port captures the word, the lanes and the bytes its pins give; the lookup is the first entry that holds the
word, the only one where no two share one; the bytes touched are the object bytes on the enabled lanes. -/
theorem arrivalCapturesTheAccess : Obligations.ArrivalCapturesTheAccess := by
  unfold Obligations.ArrivalCapturesTheAccess
  refine ⟨captureA_sound, captureB_sound,
    fun s w => ⟨fun e => holdsWord_of_lookup, not_holdsWord_of_lookup, fun disjoint e => lookup_of_holdsWord disjoint⟩,
    fun a c => ⟨fun k => ?_, ?_⟩⟩
  · simp only [Access.mem_objectBytes, mem_laneList, and_assoc]
  · rw [Access.touchesLead_iff]
    cases order : c.order <;> simp [Content.lead, order]

/-! ## Holds and plain transfers (R30 to R34, R44, R45) -/

/-- Settles O11. On a word of no extent, with padding alone, or under a THROUGH policy, the classification goes plain. -/
theorem plainPathAsksForOneWord : Obligations.PlainPathAsksForOneWord := by
  unfold Obligations.PlainPathAsksForOneWord
  intro i s p a entry arrives found why
  refine exec_of_classify arrives (w := (s.begin.arrive p).plain p (arrival a) entry) ?_ rfl rfl (arrive_plain_s s p a entry)
  rcases why with rfl | ⟨e, c, d, rfl, serves, why⟩
  · exact classify_unfound found
  · rw [Work.classify_serves (w := s.begin.arrive p) (h := arrival a) found serves]
    by_cases write : a.direction = .write
    · obtain ⟨unread, why⟩ := (if_pos write).mp why
      exact classifyOn_write_plain (w := s.begin.arrive p) (h := arrival a) serves write unread why
    · exact classifyOn_read_plain (w := s.begin.arrive p) (h := arrival a) write ((if_neg write).mp why)

/-- Settles O12. The commit in progress is looked at before the read policy. -/
theorem ownCommitHoldsRead : Obligations.OwnCommitHoldsRead := by
  unfold Obligations.OwnCommitHoldsRead
  intro i s p a e c d arrives found serves read bytes owns
  refine exec_of_held arrives ?_
  rw [Work.classify_serves (w := s.begin.arrive p) (h := arrival a) found serves]
  simp [Work.classifyOn, arrival, read, bytes, owns]

/-- Settles O13. The read is an opener; its three outcomes are the branches of the snapshot unit's opener. -/
theorem openingReadTakesSlot : Obligations.OpeningReadTakesSlot := by
  unfold Obligations.OpeningReadTakesSlot
  intro i s p a e c d arrives found serves read bytes free policy fresh opens
  have opener : (s.begin.arrive p).classify p (arrival a) = (s.begin.arrive p).snapshotOpener p (arrival a) e c d := by
    rw [classify_snapshotRead (w := s.begin.arrive p) (h := arrival a) found serves read bytes free policy,
      snapshotRead_opener (w := s.begin.arrive p) (h := arrival a) fresh opens]
  refine ⟨fun draining => exec_of_held arrives (opener.trans ?_), fun active full => exec_of_held arrives (opener.trans ?_),
    fun v u active room => ?_⟩
  · rw [draining]
    exact snapshotOpener_draining ..
  · rw [active]
    exact snapshotOpener_full (w := s.begin.arrive p) p _ e c full
  · obtain rfl : d = false := by simpa [active, Entry.isDraining, eq_comm] using State.serves_isDraining serves
    exact exec_of_classify arrives (opener.trans (snapshotOpener_room (w := s.begin.arrive p) p _ e c room)) (by simp)
      (by simp) ((openSnapshot_opens (w := s.begin.arrive p) active).trans (by cases p <;> rfl))

/-! ## Reads served from a snapshot (R51 to R54) -/

theorem okAnswer_read {a : Access} (read : a.direction ≠ .write) (x : Word) :
    okAnswer a x = { error := false, data := some x } := by
  simp [okAnswer, read]

/-- Settles O14. The read does not restart the snapshot, so that it is served; a full coverage drops the snapshot after the
answer. -/
theorem snapshotServesReadFromItsData : Obligations.SnapshotServesReadFromItsData := by
  unfold Obligations.SnapshotServesReadFromItsData
  refine ⟨fun data c a w at_ => by rw [snapshotWord, at_]; rfl, fun _ _ _ => mem_cover, fun _ _ => Content.covered_iff,
    fun i s p a e c d x data coverage timer arrives found serves read bytes free policy on opened stays => ?_⟩
  have served : (s.begin.arrive p).classify p (arrival a) =
      (s.begin.arrive p).snapshotServe p (arrival a) e c data coverage := by
    rw [classify_snapshotRead (w := s.begin.arrive p) (h := arrival a) found serves read bytes free policy,
      snapshotRead_opened (w := s.begin.arrive p) (h := arrival a) on opened]
    exact if_neg (by simp [arrival, stays])
  have answer : okAnswer a (snapshotWord data c a) = _ := okAnswer_read read _
  rw [← answer]
  refine ⟨fun partly => ?_, fun full unasked quiet => ?_⟩
  · refine exec_of_classify arrives (served.trans (if_neg (by simp [arrival, partly]))) rfl rfl ?_
    cases p <;> rfl
  · have covers : (s.begin.arrive p).snapshotServe p (arrival a) e c data coverage =
        ((s.begin.arrive p).reply p (arrival a) (okAnswer a (snapshotWord data c a))).dropSnapshot p e :=
      if_pos full
    have state := arrive_reply_s s p a (okAnswer a (snapshotWord data c a))
    have on' : ((s.begin.arrive p).reply p (arrival a) (okAnswer a (snapshotWord data c a))).s.snapshotOn p e = some x := by
      rw [state]
      exact on
    rw [(exec_arrival arrives).1, served, covers, dropSnapshot_finish on' rfl ?_ ?_,
      close_left (t := (s.withArrival p (.answered a (okAnswer a (snapshotWord data c a)))).withSnaps p
        ((s.snaps.get p).eraseP fun y => y.entry == e)) ?_ ?_]
    · rw [dropSnapshot_left on' (by rw [state]; exact unasked), state]
      rfl
    · rw [dropSnapshot_reports on', state]
      rfl
    · rw [state, withArrival_state]
      exact nofun
    · rw [state]
      exact (leaveMarks_congr (withArrival_other s p _) rfl).trans (leaveMarks_of_quiet quiet _)

/-! ## Writes (R33, R70 to R78) -/

/-- Settles O17. The writers check comes after the discard of a snapshot the port does not hold. -/
theorem writerNotNamedIsDenied : Obligations.WriterNotNamedIsDenied := by
  unfold Obligations.WriterNotNamedIsDenied
  intro i s p a e c d arrives found serves write bytes unread denied
  have outcome : (s.begin.arrive p).classify p (arrival a) = (s.begin.arrive p).denyWrite p (arrival a) e := by
    rw [Work.classify_serves (w := s.begin.arrive p) (h := arrival a) found serves]
    simp [Work.classifyOn, arrival, write, bytes, Work.dropSnapshot_none (w := s.begin.arrive p) unread, denied]
  rw [(exec_arrival arrives).1, outcome, Work.finish_quiet rfl, Work.close_one rfl]
  cases p <;> rfl

/-- Settles O18. The write is an opener; its four outcomes are the branches of the staging unit's opener. -/
theorem openingWriteTakesRecord : Obligations.OpeningWriteTakesRecord := by
  unfold Obligations.OpeningWriteTakesRecord
  intro i s p a e c d arrives found serves write bytes unread allowed policy fresh opens
  have opener : (s.begin.arrive p).classify p (arrival a) = (s.begin.arrive p).recordOpener p (arrival a) e c d := by
    rw [classify_stagingWrite (w := s.begin.arrive p) (h := arrival a) found serves write bytes unread allowed policy,
      stagingWrite_opener (w := s.begin.arrive p) (h := arrival a) fresh opens]
  refine ⟨fun draining => exec_of_held arrives (opener.trans ?_),
    fun active exclusive claimed => exec_of_held arrives (opener.trans ?_),
    fun active unclaimed full => exec_of_held arrives (opener.trans ?_), fun v u active unclaimed room => ?_⟩
  · rw [draining]
    exact recordOpener_draining ..
  · rw [active]
    exact recordOpener_claimed (w := s.begin.arrive p) p _ e c ⟨exclusive, claimed⟩
  · rw [active]
    exact recordOpener_full (w := s.begin.arrive p) p _ e c unclaimed full
  · obtain rfl : d = false := by simpa [active, Entry.isDraining, eq_comm] using State.serves_isDraining serves
    exact exec_of_classify arrives (opener.trans (recordOpener_room (w := s.begin.arrive p) p _ e c unclaimed room))
      (by simp) (by simp)
      ((openAndEnter_opens (w := s.begin.arrive p) (h := arrival a) active fresh write).trans (by cases p <;> rfl))

/-- What the entering of a write leaves of each extent byte (R71). -/
theorem enterBytes_get (bytes : List (Option Byte)) (c : Content) (a : Access) {k : Nat} (inside : k < bytes.length) :
    (∀ l, l < 4 → a.lanes.getLsbD l = true → k = 4 * (a.word.toNat - c.base) + l →
        (enterBytes bytes c a)[k]? = some (some (a.data.extractLsb' (8 * l) 8)))
      ∧ ((∀ l, l < 4 → a.lanes.getLsbD l = true → k ≠ 4 * (a.word.toNat - c.base) + l) →
          (enterBytes bytes c a)[k]? = bytes[k]?) := by
  have entered := enterLanes_get (laneList a.lanes) bytes (4 * (a.word.toNat - c.base)) k a.data inside
  refine ⟨fun l small on place => entered.trans ?_, fun out => entered.trans (if_neg ?_)⟩
  · subst place
    rw [if_pos ⟨Nat.le_add_right .., mem_laneList.mpr (by rw [Nat.add_sub_cancel_left]; exact ⟨small, on⟩)⟩,
      Nat.add_sub_cancel_left]
    rfl
  · rintro ⟨after, lane⟩
    obtain ⟨small, on⟩ := mem_laneList.mp lane
    exact out _ small on (by omega)

/-- Settles O19. The port holds an OPEN record there and the write touches no lead byte, so that it is entered. -/
theorem writeEntersOpenRecord : Obligations.WriteEntersOpenRecord := by
  unfold Obligations.WriteEntersOpenRecord
  refine ⟨fun bytes c a => ⟨enterBytes_length bytes c a, fun k inside => enterBytes_get bytes c a inside⟩,
    fun c bytes => Content.written_iff,
    fun i s p a e c d r arrives found serves write bytes unread allowed policy on follows => ?_⟩
  have outcome : (s.begin.arrive p).classify p (arrival a) = (s.begin.arrive p).enterWrite p (arrival a) e c r.bytes := by
    rw [classify_stagingWrite (w := s.begin.arrive p) (h := arrival a) found serves write bytes unread allowed policy,
      stagingWrite_open (w := s.begin.arrive p) on]
    exact if_neg (by simp [arrival, follows])
  refine exec_of_classify arrives outcome (by simp) (by simp) 
    ((enterWrite_s (w := s.begin.arrive p) (h := arrival a) (content_of_serves (s := s) serves) write r.bytes).trans ?_)
  cases p <;> rfl

end Sys2Proof.Proofs
end

section
/-! PROOFS. The expiries of limits (R59, R84, R125), what they free, and the statements O24, O25, O26, O27, O28. -/

namespace Sys2Proof.Machine

open Sys2Proof

section Leavings
variable {w : Work} {s t : State} {p q : Port} {e : EntryIndex}

theorem leavesQuietly_of_unconcerned {c : Content} {v : BitVec 16} {u : Nat} {r : Replacement}
    (entry : s.entry e = .draining c v u r) (none : s.unconcerned e (some c) r.content? = true) :
    s.leavesQuietly e = true := by
  simp [State.leavesQuietly, entry, none]

/-- Whom the last leaving of a DRAINING entry marks. -/
theorem leaveMarks_last {c : Content} {v : BitVec 16} {u : Nat} {r : Replacement}
    (entry : s.entry e = .draining c v u r) (last : u ≤ 1) (q : Port) :
    s.leaveMarks q e = s.holds q fun h => h.concerned e (some c) r.content? := by
  simp [State.leaveMarks, entry, last]

theorem holds_of_held {h : Held} (held : (s.ports.get p).state = .held h) (f : Held → Bool) : s.holds p f = f h := by
  simp [State.holds, held]

theorem holds_mono {f g : Held → Bool} (implies : ∀ h, f h = true → g h = true) (none : s.holds p g = false) :
    s.holds p f = false := by
  unfold State.holds at none ⊢
  split
  · next h held =>
    rw [held] at none
    exact Bool.eq_false_iff.mpr fun now => by simp [implies h now] at none
  · rfl

theorem nobodyHeld_iff (f : Held → Bool) : s.nobodyHeld f = true ↔ ∀ q, s.holds q f = false := by
  simp only [State.nobodyHeld, Bool.and_eq_true, Bool.not_eq_true']
  exact ⟨fun ⟨a, b⟩ q => by cases q <;> assumption, fun both => ⟨both .a, both .b⟩⟩

theorem dropRecord_unmarked {x : OpenRecord} (on : w.s.recordOn p e = some x) (unmarked : w.again = ⟨false, false⟩)
    (recordless : w.s.holds p (fun h => h.cause == .record) = false)
    (claimless : w.s.nobodyHeld (fun h => h.cause == .claim && h.entry == some e) = true)
    (quiet : ∀ q, w.s.leaveMarks q e = false) : (w.dropRecord p e).again = ⟨false, false⟩ := by
  rw [nobodyHeld_iff] at claimless
  rw [unmarked_iff] at unmarked ⊢
  intro q
  rw [dropRecord_again on, unmarked, quiet, claimless, Bool.and_false]
  by_cases same : q = p
  · subst same
    simp [recordless]
  · simp [same]

/-! A claim checked is none of the events' and the entries'. -/

theorem claimChecked_keepsContent (s : State) (p : Port) (e : EntryIndex) :
    (s.claimChecked p e).keepsContent e = s.keepsContent e := by
  unfold State.keepsContent
  rw [claimChecked_entry]

theorem claimChecked_enter (s : State) (p : Port) (e : EntryIndex) (x : Report) :
    { s.claimChecked p e with events := (s.claimChecked p e).events.enter x } =
      State.claimChecked { s with events := s.events.enter x } p e := by
  by_cases freed : s.claims[e] = some p ∧ s.holdsRecord p e = false
  · have left : s.claimChecked p e = s.withClaim e none := if_pos freed
    have right : State.claimChecked { s with events := s.events.enter x } p e = _ := if_pos freed
    rw [left, right]
    rfl
  · have left : s.claimChecked p e = s := if_neg freed
    have right : State.claimChecked { s with events := s.events.enter x } p e = _ := if_neg freed
    rw [left, right]

theorem withClaim_withClaim (s : State) (e : EntryIndex) (x y : Option Port) :
    (s.withClaim e x).withClaim e y = s.withClaim e y := by
  simp [State.withClaim]

theorem withEntry_withEntry (s : State) (e : EntryIndex) (x y : Entry) :
    (s.withEntry e x).withEntry e y = s.withEntry e y := by
  simp [State.withEntry]

theorem claimChecked_installedAs (s : State) (p : Port) (e : EntryIndex) (x : Entry) :
    (s.claimChecked p e).installedAs e x = s.installedAs e x := by
  unfold State.claimChecked
  split
  · exact withClaim_withClaim (s.withEntry e x) e none none
  · rfl

theorem withWaiting_self {t : Option Transfer} (waits : s.mem.waiting.get p = t) : s.withWaiting p t = s := by
  subst waits
  simp [State.withWaiting]

/-! ## Lookups see contents alone -/

theorem lookup_congr {n : WordAddr} (same : ∀ f, (t.entry f).content? = (s.entry f).content?) : t.lookup n = s.lookup n := by
  unfold State.lookup
  simp only [same]

/-- An entry that keeps its content. -/
theorem content_withEntry {x : Entry} (same : x.content? = (s.entry e).content?) (f : EntryIndex) :
    ((s.withEntry e x).entry f).content? = (s.entry f).content? := by
  by_cases eq : f = e
  · subst eq
    rw [withEntry_entry, same]
  · rw [withEntry_entry_ne _ _ eq]

section Plainly
variable {c : Content} {v : BitVec 16} {u : Nat}

theorem content_of_active (active : s.entry e = .active c v u) : (s.entry e).content? = some c := by
  rw [active]
  rfl

theorem keepsContent_of_active (active : s.entry e = .active c v u) : s.keepsContent e = true := by
  simp [State.keepsContent, active]

theorem noFillWaits_of_none (waits : s.mem.waiting.get p = none) : s.noFillWaits p e = true := by
  simp [State.noFillWaits, waits]

theorem noFillAsked_of_none (waits : s.mem.waiting.get p = none) : s.noFillAsked p = true := by
  simp [State.noFillAsked, waits]

end Plainly

theorem left_of_active {c : Content} {v : BitVec 16} {u : Nat} (active : s.entry e = .active c v u) :
    s.left e = s.withEntry e (.active c v (u - 1)) := by
  rw [← userLeft_of_keepsContent (keepsContent_of_active active)]
  simp [State.userLeft, active]

end Leavings

/-! ## Expiries -/

section Expiries
variable {w : Work} {p : Port} {e : EntryIndex}

/-- What the expiry of a snapshot's limit reports (R59). -/
def snapExpired (p : Port) (e : EntryIndex) (x : Snapshot) : Report :=
  { source := .snapshotUnit, kind := .snapExpired, port := some p, entry := some e, address := none, detail := some x.delivered }

/-- What the expiry of a record's limit reports (R84). -/
def stageExpired (p : Port) (e : EntryIndex) (r : OpenRecord) : Report :=
  { source := .stagingUnit, kind := .stageExpired, port := some p, entry := some e, address := none,
    detail := some (maskCount r.bytes) }

/-- What the expiry of a hold limit reports (R125). -/
def holdExpired (p : Port) (h : Held) : Report :=
  { source := .port p, kind := .holdExpired, port := some p, entry := h.entry, address := some h.access.address,
    detail := some h.cause.number }

theorem expireSnapshot_due {x : Snapshot} (on : w.s.snapshotOn p e = some x) (due : x.due = true) :
    w.expireSnapshot p e = (w.report (snapExpired p e x)).dropSnapshot p e := by
  simp [Work.expireSnapshot, on, due, snapExpired]

theorem expireSnapshot_early (early : ∀ x, w.s.snapshotOn p e = some x → x.due = false) : w.expireSnapshot p e = w := by
  unfold Work.expireSnapshot
  split
  · next x on => simp [early x on]
  · rfl

theorem expireRecord_due {r : OpenRecord} (on : w.s.recordOn p e = some r) (due : r.timer.due = true) :
    w.expireRecord p e = (w.report (stageExpired p e r)).dropRecord p e := by
  simp [Work.expireRecord, on, due, stageExpired]

theorem expireRecord_early (early : ∀ r, w.s.recordOn p e = some r → r.timer.due = false) : w.expireRecord p e = w := by
  unfold Work.expireRecord
  split
  · next r on => simp [early r on]
  · rfl

theorem expireHold_due {h : Held} (held : (w.s.ports.get p).state = .held h) (due : h.timer.due = true) :
    w.expireHold p = ((w.report (holdExpired p h)).reply p h (errorAnswer h.access)).withdraw p := by
  simp [Work.expireHold, held, due, holdExpired]

theorem expireHold_early (early : w.s.holds p (fun h => h.timer.due) = false) : w.expireHold p = w := by
  unfold State.holds at early
  unfold Work.expireHold
  split
  · next h held => simp_all
  · rfl

/-- An event in which nothing happens. -/
theorem begin_finish (s : State) : s.begin.finish = s.drivePins := by
  rw [Work.finish_quiet rfl, Work.close_nil rfl]
  rfl

end Expiries

end Sys2Proof.Machine

namespace Sys2Proof.Proofs

open Sys2Proof Sys2Proof.Machine

/-! ## The limit of a snapshot (R59) -/

section SnapshotLimit
variable {s : State} {p : Port} {e : EntryIndex} {x : Snapshot}

theorem exec_snapshotLimitExpiry (on : s.snapshotOn p e = some x) (due : x.due = true) :
    exec (.snapshotLimitExpiry p e) s = .next ((s.begin.report (snapExpired p e x)).dropSnapshot p e).finish :=
  congrArg (fun w => Host.Outcome.next (Work.finish w)) (expireSnapshot_due on due)

/-- The work of the expiry, when the slot has been freed. -/
theorem slotFreed (on : s.snapshotOn p e = some x) (unasked : s.noFillWaits p e = true) :
    ((s.begin.report (snapExpired p e x)).dropSnapshot p e).s =
        State.left (s.withSnaps p ((s.snaps.get p).eraseP fun y => y.entry == e)) e
      ∧ ((s.begin.report (snapExpired p e x)).dropSnapshot p e).reports =
        snapExpired p e x :: leaveReports e ((s.withSnaps p ((s.snaps.get p).eraseP fun y => y.entry == e)).entry e) :=
  ⟨dropSnapshot_left (w := s.begin.report (snapExpired p e x)) on unasked,
    dropSnapshot_reports (w := s.begin.report (snapExpired p e x)) on⟩

theorem slotFreed_again (on : s.snapshotOn p e = some x) (q : Port) :
    ((s.begin.report (snapExpired p e x)).dropSnapshot p e).again.get q =
      (decide (q = p) && s.holds q (fun h => h.cause == .slot) || s.leaveMarks q e) := by
  rw [dropSnapshot_again (w := s.begin.report (snapExpired p e x)) on]
  cases q <;> rfl

end SnapshotLimit

/-- Settles O24. The slot is freed after the report; the leaving installs nothing, or installs and marks nobody, or marks the
other port's access, which then goes on. -/
theorem snapshotLimitExpiryFreesSlot : Obligations.SnapshotLimitExpiryFreesSlot := by
  unfold Obligations.SnapshotLimitExpiryFreesSlot
  intro p e s
  refine ⟨fun early => ?_, fun x on due unasked slotless => ?_⟩
  · exact congrArg Host.Outcome.next ((congrArg Work.finish (expireSnapshot_early early)).trans (begin_finish s))
  obtain ⟨state, reports⟩ := slotFreed on unasked
  have unmarked : (∀ q, s.leaveMarks q e = false) →
      ((s.begin.report (snapExpired p e x)).dropSnapshot p e).again = ⟨false, false⟩ :=
    dropSnapshot_unmarked (w := s.begin.report (snapExpired p e x)) on rfl slotless
  rw [exec_snapshotLimitExpiry on due]
  refine ⟨fun keeps => ?_, fun c v u r entry last => ⟨fun quiet => ?_, fun h held noFill concerned unheld => ?_⟩⟩
  · rw [Work.finish_quiet (unmarked (leaveMarks_of_keepsContent keeps)), close_reported_left state reports keeps]
    rfl
  · rw [Work.finish_quiet (unmarked (leaveMarks_of_quiet (leavesQuietly_of_unconcerned entry quiet)))]
    have either := close_reported_installed (x := snapExpired p e x) state reports entry last nofun
    exact ⟨_, rfl, either⟩
  · obtain ⟨installed, report⟩ := left_of_last (t := s.withSnaps p ((s.snaps.get p).eraseP fun y => y.entry == e)) entry last
    rw [report] at reports
    rw [installed] at state
    have marks := fun q => (slotFreed_again (s := s) on q).trans (by rw [leaveMarks_last entry last])
    have marked : _ = true := (marks p.other).trans (by simp [holds_of_held held, concerned])
    have alone : _ = false := (marks p).trans (by simp [slotless, holds_of_unheld unheld])
    have goes : ∀ t : State, State.goesOn _ p.other h t → _ := fun t leads =>
      finish_goesOn_two (t := t) (by rw [state]; exact held) (by rw [state]; exact noFill) marked
        (by rw [Port.other_other]; exact alone) (by rw [state]; exact leads) reports nofun
    refine ⟨fun unfound => ⟨_, rfl, goes _ (.inl ⟨unfound, rfl⟩)⟩, ?_⟩
    rintro d rfl found
    have active := withEntry_entry (s.withSnaps p ((s.snaps.get p).eraseP fun y => y.entry == e)) e (.active d 0 0)
    exact ⟨fun opens => ⟨_, rfl, goes _ (goesOn_installed found active (.inl ⟨opens, rfl⟩))⟩,
      fun opens => ⟨_, rfl, goes _ (goesOn_installed found active (.inr ⟨opens, rfl⟩))⟩⟩

/-! ## The limit of a record (R84) -/

/-- Settles O25. The record is discarded after the report, the claim is checked, and the leaving installs or does not. -/
theorem stagingLimitExpiryDiscardsRecord : Obligations.StagingLimitExpiryDiscardsRecord := by
  unfold Obligations.StagingLimitExpiryDiscardsRecord
  intro p e s
  refine ⟨fun early => ?_, fun r on due recordless claimless => ?_⟩
  · exact congrArg Host.Outcome.next ((congrArg Work.finish (expireRecord_early early)).trans (begin_finish s))
  have row : exec (.stagingLimitExpiry p e) s = .next ((s.begin.report (stageExpired p e r)).dropRecord p e).finish :=
    congrArg (fun w => Host.Outcome.next (Work.finish w)) (expireRecord_due on due)
  have state := dropRecord_s (w := s.begin.report (stageExpired p e r)) on
  have reports := dropRecord_reports (w := s.begin.report (stageExpired p e r)) on
  have unmarked := dropRecord_unmarked (w := s.begin.report (stageExpired p e r)) on rfl recordless claimless
  rw [row]
  refine ⟨fun keeps => ?_, fun c v u q entry last quiet => ?_⟩
  · rw [Work.finish_quiet (unmarked (leaveMarks_of_keepsContent keeps)),
      close_reported_left state (by rw [claimChecked_entry]; exact reports) ((claimChecked_keepsContent ..).trans keeps),
      claimChecked_enter]
    rfl
  · rw [Work.finish_quiet (unmarked (leaveMarks_of_quiet (leavesQuietly_of_unconcerned entry quiet)))]
    have either := close_reported_installed (x := stageExpired p e r) state (by rw [claimChecked_entry]; exact reports)
      ((claimChecked_entry ..).trans entry) last nofun
    rw [claimChecked_installedAs] at either
    exact ⟨_, rfl, either⟩

/-! ## The hold limit (R125, R50) -/

/-- The work of a hold limit's expiry once the access is answered. -/
def expiryAnswered (s : State) (p : Port) (h : Held) : Work :=
  (s.begin.report (holdExpired p h)).reply p h (errorAnswer h.access)

theorem refuses_unheld (s : State) (p : Port) (h : Held) (g : Held) : ((s.refuses p h).ports.get p).state ≠ .held g := by
  rw [State.refuses, withPort_state]
  split <;> exact nofun

/-- Settles O26. The access is answered, and its request withdrawn; the slot of a fill leaves with it. -/
theorem holdLimitExpiryWithdrawsAccess : Obligations.HoldLimitExpiryWithdrawsAccess := by
  unfold Obligations.HoldLimitExpiryWithdrawsAccess
  intro p s
  refine ⟨fun early => ?_, fun h held due => ?_⟩
  · exact congrArg Host.Outcome.next ((congrArg Work.finish (expireHold_early early)).trans (begin_finish s))
  have row : exec (.holdLimitExpiry p) s = .next ((expiryAnswered s p h).withdraw p).finish :=
    congrArg (fun w => Host.Outcome.next (Work.finish w)) (expireHold_due held due)
  rw [row]
  refine ⟨fun plain => ?_, fun t q addr e y waits fill on => ?_⟩
  · rw [withdraw_unfilled (w := expiryAnswered s p h) plain, Work.finish_quiet rfl, Work.close_one rfl]
    rfl
  · rw [withdraw_fill (w := expiryAnswered s p h) waits fill]
    have gone : ((expiryAnswered s p h).setWaiting p none).s = (s.refuses p h).withWaiting p none := rfl
    have unasked : ((s.refuses p h).withWaiting p none).noFillWaits p e = true := by simp [State.noFillWaits, State.withWaiting]
    have state := dropSnapshot_left (w := (expiryAnswered s p h).setWaiting p none) on unasked
    have reports := dropSnapshot_reports (w := (expiryAnswered s p h).setWaiting p none) on
    have ends := dropSnapshot_finish (w := (expiryAnswered s p h).setWaiting p none) on rfl (refuses_unheld s p h)
    have marks : ((s.refuses p h).withWaiting p none).leaveMarks p.other e = s.leaveMarks p.other e :=
      leaveMarks_congr (withPort_other s p _) rfl
    refine ⟨fun keeps => ?_, fun c v u r entry last quiet => ?_⟩
    · rw [ends (marks.trans (leaveMarks_of_keepsContent keeps _)), close_reported_left state reports keeps]
      rfl
    · rw [ends (marks.trans ((leaveMarks_last entry last _).trans quiet))]
      have either := close_reported_installed (x := holdExpired p h) state reports entry last nofun
      exact ⟨_, rfl, either⟩

/-! ## What a freed slot or a released claim serves (R46, R88) -/

theorem length_eraseP_snaps {s : State} {p : Port} {e : EntryIndex} {x : Snapshot} (on : s.snapshotOn p e = some x) :
    ((s.snaps.get p).eraseP fun y => y.entry == e).length = (s.snaps.get p).length - 1 := by
  have among : x ∈ s.snaps.get p := List.mem_of_find?_eq_some on
  have named := List.find?_some (p := fun y : Snapshot => y.entry == e) on
  exact List.length_eraseP_of_mem among named

theorem snapshotOn_eraseP_none {s : State} {p : Port} {e f : EntryIndex} (fresh : s.snapshotOn p f = none) :
    (s.withSnaps p ((s.snaps.get p).eraseP fun y => y.entry == e)).snapshotOn p f = none := by
  unfold State.snapshotOn State.withSnaps
  rw [PerPort.get_set_same]
  exact List.find?_eq_none.mpr fun x among => List.find?_eq_none.mp fresh x (List.mem_of_mem_eraseP among)

/-- Settles O27. The freed slot marks the read held with cause SLOT, which opens its snapshot when it is classified again. -/
theorem freedSlotServesHeldRead : Obligations.FreedSlotServesHeldRead := by
  unfold Obligations.FreedSlotServesHeldRead
  intro p e f s x h c d v w u m on due active held slot waits full ne found activeF fresh read bytes free policy opener
  obtain ⟨state, reports⟩ := slotFreed on (noFillWaits_of_none waits)
  have quiet := leaveMarks_of_keepsContent (s := s) (e := e) (keepsContent_of_active active)
  have marks := fun q => (slotFreed_again on q).trans (by rw [quiet, Bool.or_false])
  generalize erased : (s.snaps.get p).eraseP (fun y => y.entry == e) = rest at *
  have left : (s.withSnaps p rest).left e = (s.withSnaps p rest).withEntry e (.active c v (u - 1)) := left_of_active active
  rw [leaveReports_of_keepsContent (t := s.withSnaps p rest) (keepsContent_of_active active)] at reports
  rw [left] at state
  have entries : ∀ g, (((s.withSnaps p rest).withEntry e (.active c v (u - 1))).entry g).content? = (s.entry g).content? :=
    content_withEntry (s := s.withSnaps p rest) (content_of_active active).symm
  have leads : State.goesOn _ p h _ := goesOn_installed (s := (s.withSnaps p rest).withEntry e (.active c v (u - 1)))
    ((lookup_congr entries).trans found) ((withEntry_entry_ne _ _ ne).trans activeF) (.inl ⟨?_, rfl⟩)
  · rw [exec_snapshotLimitExpiry on due, finish_goesOn_one (h := h) (by rw [state]; exact held)
      (by rw [state]; exact noFillAsked_of_none waits) ((marks p).trans (by simp [holds_of_held held, slot]))
      ((marks p.other).trans (by simp)) (by rw [state]; exact leads) reports]
    cases p <;> rfl
  · exact readOpens_iff.mpr ⟨read, bytes, free, policy, erased ▸ snapshotOn_eraseP_none fresh, opener, by
      have length := length_eraseP_snaps on
      rw [erased, full] at length
      exact lt_of_eq_of_lt ((congrArg List.length (PerPort.get_set_same ..)).trans length) (by decide)⟩

/-- The only OPEN record of a port on an entry gone, it has none there. -/
theorem recordOn_eraseP_only {s : State} {p : Port} {e : EntryIndex} (one : s.openCount p e = 1) :
    ∀ r ∈ (s.recs.get p).eraseP (fun y => y.entry == e), (r.entry == e) = false := by
  have gone : countOn OpenRecord.entry ((s.recs.get p).eraseP fun y => y.entry == e) e = 0 := by
    rw [countOn_eraseP, if_pos rfl]
    exact Nat.sub_eq_zero_of_le one.le
  exact fun r among => Bool.eq_false_iff.mpr (List.countP_eq_zero.mp gone r among)

section ReleasedClaim
variable {s : State} {p : Port} {e : EntryIndex} {c : Content} {v : BitVec 16} {u : Nat} {h : Held}

/-- A write that takes the claim and a record where a record has gone: the count of users ends as it was. -/
theorem opensRecord_of_released {b : State} {q : Port} (active : b.entry e = .active c v u) (users : 1 ≤ u)
    (exclusive : c.claim = .exclusive) (rest : List OpenRecord) (ne : q ≠ p) :
    (((b.withRecs p rest).withClaim e none).withEntry e (.active c v (u - 1))).opensRecord q h e c v (u - 1) =
      let bytes := enterBytes (List.replicate (4 * c.extent) none) c h.access
      let taken := ((b.withRecs p rest).withClaim e (some q)).withPort q
        (if h.released = true then .idle else writtenOk h.access)
      if c.written bytes = true then taken.queued { port := q, entry := e, bytes := bytes } c
      else
        taken.withRecs q
          (b.recs.get q ++ [{ entry := e, bytes := bytes, timer := { limit := c.stagingLimit, counted := 0 } }]) := by
  have again : (b.table.set e (.active c v (u - 1))).set e (.active c v (u - 1 + 1)) = b.table := by
    rw [Nat.sub_add_cancel users, Vector.set_set, ← active]
    exact congrArg State.table (withEntry_self b e)
  have claim : (b.claims.set e none).set e (some q) = b.claims.set e (some q) := Vector.set_set ..
  have recs : (b.recs.set p rest).get q = b.recs.get q := PerPort.get_set_ne _ _ _ _ ne
  by_cases full : c.written (enterBytes (List.replicate (4 * c.extent) none) c h.access) = true
  · simp only [State.opensRecord, exclusive, full, if_true, State.queued, State.withRecs, State.withPort, State.withEntry,
      State.withClaim, again, claim]
    rfl
  · simp only [State.opensRecord, exclusive, full, if_true, if_false, reduceCtorEq, State.withRecs, State.withPort,
      State.withEntry, State.withClaim, again, claim, recs]

end ReleasedClaim

/-- Settles O28. The released claim marks the write held with cause CLAIM, which takes the claim and a record. -/
theorem releasedClaimServesHeldWrite : Obligations.ReleasedClaimServesHeldWrite := by
  unfold Obligations.ReleasedClaimServesHeldWrite
  intro p e s r h c v u on due one free claimed active users unheld held cause entry waits found write bytes unread allowed
    policy exclusive fresh opener room
  have row : exec (.stagingLimitExpiry p e) s = .next ((s.begin.report (stageExpired p e r)).dropRecord p e).finish :=
    congrArg (fun w => Host.Outcome.next (Work.finish w)) (expireRecord_due on due)
  have recordless := recordOn_eraseP_only one
  have state := dropRecord_s (w := s.begin.report (stageExpired p e r)) on
  have reports := dropRecord_reports (w := s.begin.report (stageExpired p e r)) on
  have marks := dropRecord_again (w := s.begin.report (stageExpired p e r)) on
  change _ = State.left ((s.withRecs p ((s.recs.get p).eraseP fun y => y.entry == e)).claimChecked p e) e at state
  change ∀ q, _ = (_ || decide (q = p) && s.holds q _
    || State.claimFreed (s.withRecs p ((s.recs.get p).eraseP fun y => y.entry == e)) p e && s.holds q _
    || s.leaveMarks q e) at marks
  generalize (s.recs.get p).eraseP (fun y => y.entry == e) = rest at *
  have freed : s.claims[e] = some p ∧ (s.withRecs p rest).holdsRecord p e = false := by
    refine ⟨claimed, ?_⟩
    have none : (rest.any fun y => y.entry == e) = false := List.any_eq_false.mpr fun y among => by simp [recordless y among]
    simp only [State.holdsRecord, State.withRecs, PerPort.get_set_same, none, Bool.false_or]
    exact free
  have checked : (s.withRecs p rest).claimChecked p e = (s.withRecs p rest).withClaim e none := if_pos freed
  rw [checked, left_of_active (s := (s.withRecs p rest).withClaim e none) active] at state
  have one : _ = [stageExpired p e r] := reports.trans (congrArg (stageExpired p e r :: ·)
    (leaveReports_of_keepsContent (keepsContent_of_active active)))
  simp only [State.claimFreed, decide_eq_true (show (s.withRecs p rest).claims[e] = some p ∧ _ from freed),
    leaveMarks_of_keepsContent (keepsContent_of_active active), Bool.or_false, Bool.true_and] at marks
  have entries : ∀ g, ((((s.withRecs p rest).withClaim e none).withEntry e (.active c v (u - 1))).entry g).content? =
      (s.entry g).content? := content_withEntry (s := (s.withRecs p rest).withClaim e none) (content_of_active active).symm
  have leads : State.goesOn _ p.other h _ := goesOn_installed
    (s := ((s.withRecs p rest).withClaim e none).withEntry e (.active c v (u - 1)))
    ((lookup_congr entries).trans found)
    (withEntry_entry ..) (.inr ⟨writeOpens_iff.mpr ?_, rfl⟩)
  · rw [row, finish_goesOn_one (h := h) (by rw [state]; exact held) (by rw [state]; exact noFillAsked_of_none waits)
      ((marks p.other).trans ?_) ((marks p.other.other).trans ?_) (by rw [state]; exact leads) one]
    · rw [withWaiting_self (by exact waits), opensRecord_of_released active users exclusive rest (Port.other_ne p)]
      dsimp only
      split <;> rfl
    · simp [holds_of_held held, cause, entry]
    · rw [Port.other_other, holds_mono (by simp +contextual) unheld, holds_mono (by simp +contextual) unheld]
      cases p <;> rfl
  · refine ⟨write, bytes, unread, allowed, policy, ?_, opener, ?_, ?_⟩
    · exact (congrArg (List.find? _) (PerPort.get_set_other ..)).trans fresh
    · rintro ⟨-, taken⟩
      exact nomatch (withClaim_claims (s.withRecs p rest) e none).symm.trans taken
    · exact lt_of_eq_of_lt (congrArg (fun l : List OpenRecord => l.length + _) (PerPort.get_set_other ..)) room

end Sys2Proof.Proofs
end

section
/-! PROOFS. Arrivals that discard: the read that restarts its snapshot, the write that discards its port's snapshot, the write
that restarts its record, and the statements O15, O16, O20. Where the discard is the last leaving of a DRAINING entry, the
access is classified again against what is installed (R146). -/

namespace Sys2Proof.Machine

open Sys2Proof

section Discards
variable {w : Work} {s bare t : State} {p q : Port} {e : EntryIndex} {a : Access} {c : Content} {v : BitVec 16} {u : Nat}
  {r : Replacement}

theorem work_ext {x y : Work} (state : x.s = y.s) (reports : x.reports = y.reports) (again : x.again = y.again) : x = y := by
  cases x
  cases y
  cases state
  cases reports
  cases again
  rfl

theorem serves_of_draining (draining : s.entry e = .draining c v u r) : s.serves e c true = true := by
  simp [State.serves, draining]

theorem keepsContent_of_draining (draining : s.entry e = .draining c v u r) (more : 2 ≤ u) : s.keepsContent e = true := by
  simp [State.keepsContent, draining, more]

theorem left_of_draining (draining : s.entry e = .draining c v u r) (more : 2 ≤ u) :
    s.left e = s.withEntry e (.draining c v (u - 1) r) := by
  rw [← userLeft_of_keepsContent (keepsContent_of_draining draining more)]
  simp [State.userLeft, draining, more]

/-- A held access whose causes are others. -/
theorem holds_heldAs (s : State) (p : Port) (a : Access) (cause : HoldCause) (entry : Option EntryIndex) (f : Held → Bool) :
    (s.withArrival p (heldAs a cause entry)).holds p f =
      f { arrival a with cause := cause, entry := entry } :=
  holds_of_held (withArrival_state ..) f

/-- What an access leads to that goes on in state `bare`: on no entry it goes plain, on an ACTIVE one it opens a snapshot or
a record (R145, R146). -/
def State.arrivalGoesOn (bare : State) (p : Port) (a : Access) (t : State) : Prop :=
  (bare.lookup a.word = none ∧ t = bare.asksPlain p (arrival a) none)
    ∨ ∃ e c v u, bare.lookup a.word = some e ∧ bare.entry e = .active c v u
        ∧ ((bare.readOpens p a e c = true ∧ t = bare.opensSnapshot p (arrival a) e c v u)
          ∨ (bare.writeOpens p a e c = true ∧ t = bare.opensRecord p (arrival a) e c v u))

/-- An access held at its arrival goes on as it would without the hold. -/
theorem goesOn_arrival {cause : HoldCause} {entry : Option EntryIndex} (waits : bare.mem.waiting.get p = none)
    (leads : bare.arrivalGoesOn p a t) :
    (bare.withPort p (heldAs a cause entry)).goesOn p { arrival a with cause := cause, entry := entry } t := by
  have self : (bare.withPort p (heldAs a cause entry)).withWaiting p none = bare.withPort p (heldAs a cause entry) :=
    withWaiting_self waits
  rcases leads with ⟨unfound, rfl⟩ | ⟨e, c, v, u, found, active, ⟨opens, rfl⟩ | ⟨opens, rfl⟩⟩
  · exact .inl ⟨unfound, by rw [self]; cases p <;> rfl⟩
  · exact goesOn_installed found active (.inl ⟨opens, by rw [self]; cases p <;> rfl⟩)
  · exact goesOn_installed found active (.inr ⟨opens, by rw [self]; cases p <;> rfl⟩)

section Met
variable {cause : HoldCause} {entry : Option EntryIndex} {x y : Report}
  (state : w.s = bare.withPort p (heldAs a cause entry)) (waits : bare.mem.waiting.get p = none)
  (marked : w.again.get p = true) (alone : w.again.get p.other = false) (leads : bare.arrivalGoesOn p a t)
include state waits marked alone leads

/-- The arrival that meets an install in its own event is classified again. -/
theorem finish_arrivalGoesOn_one (reports : w.reports = [x]) :
    w.finish = State.drivePins { t with events := t.events.enter x } :=
  finish_goesOn_one (by rw [state]; exact withPort_state ..) (by rw [state]; exact noFillAsked_of_none waits) marked alone
    (by rw [state]; exact goesOn_arrival waits leads) reports

theorem finish_arrivalGoesOn_two (reports : w.reports = [x, y]) (apart : y.source ≠ x.source) :
    t.recordedEither x y w.finish :=
  finish_goesOn_two (by rw [state]; exact withPort_state ..) (by rw [state]; exact noFillAsked_of_none waits) marked alone
    (by rw [state]; exact goesOn_arrival waits leads) reports apart

end Met

/-- A record is opened whatever the events are. -/
theorem opensRecord_enter (s : State) (p : Port) (h : Held) (e : EntryIndex) (c : Content) (v : BitVec 16) (u : Nat)
    (x : Report) :
    { s.opensRecord p h e c v u with events := (s.opensRecord p h e c v u).events.enter x } =
      State.opensRecord { s with events := s.events.enter x } p h e c v u := by
  unfold State.opensRecord
  dsimp only
  split <;> split <;> rfl

end Discards

end Sys2Proof.Machine

namespace Sys2Proof.Proofs

open Sys2Proof Sys2Proof.Machine

/-! ## Reads that restart (R55) -/

section Restarts
variable {s : State} {p : Port} {e : EntryIndex} {x : Snapshot} {c : Content} {v : BitVec 16} {u : Nat} {a : Access}

/-- A snapshot opened where one has gone: the count of users ends as it was. -/
theorem opensSnapshot_of_freed {rest : List Snapshot} (h : Held) (active : s.entry e = .active c v u) (users : 1 ≤ u) :
    ((s.withSnaps p rest).withEntry e (.active c v (u - 1))).opensSnapshot p h e c v (u - 1) =
      (((s.withPort p (.held { h with cause := .memory, entry := some e })).withSnaps p
        (rest ++ [{ entry := e, state := .filling }])).withWaiting p (some (fillTransfer p h.access e c))) := by
  have again : (s.table.set e (.active c v (u - 1))).set e (.active c v (u - 1 + 1)) = s.table := by
    rw [Nat.sub_add_cancel users, Vector.set_set, ← active]
    exact congrArg State.table (withEntry_self s e)
  simp only [State.opensSnapshot, State.withSnaps, State.withEntry, State.withPort, State.withWaiting, again,
    PerPort.get_set_same, PerPort.set_set]
  rfl

/-- The port of an arrival is IDLE until its access is classified. -/
theorem arrive_unheld {i : Instr} (arrives : arrivalOf i s = some (p, a)) (h : Held) :
    ((s.begin.arrive p).s.ports.get p).state ≠ .held h := by
  have idle := (exec_arrival arrives).2
  intro held
  cases p <;> exact nomatch idle.symm.trans held

end Restarts

section HeldForDrain
variable {s : State} {p : Port} {e : EntryIndex} {a : Access} {c : Content} {v : BitVec 16} {u : Nat} {r : Replacement}

/-- The work of an arrival held with cause DRAIN before its port's discard is reported (R146). -/
def heldForDrain (s : State) (p : Port) (a : Access) (e : EntryIndex) : Work :=
  (s.begin.arrive p).hold p (arrival a) .drain (some e)

theorem heldForDrain_s : (heldForDrain s p a e).s = s.withArrival p (heldAs a .drain (some e)) := arrive_setPortState_s ..

/-- Whom the last leaving marks then: the arrival itself, and nobody else. -/
theorem heldForDrain_marks (draining : s.entry e = .draining c v u r) (last : u ≤ 1)
    (quiet : s.unconcerned e (some c) r.content? = true) :
    (s.withArrival p (heldAs a .drain (some e))).leaveMarks p e = true
      ∧ (s.withArrival p (heldAs a .drain (some e))).leaveMarks p.other e = false := by
  refine ⟨?_, (leaveMarks_congr (withArrival_other s p _) rfl).trans
    (leaveMarks_of_quiet (leavesQuietly_of_unconcerned draining quiet) _)⟩
  rw [leaveMarks_last (s := s.withArrival p _) draining last, holds_heldAs]
  simp [Held.concerned]

end HeldForDrain

/-- Settles O15. The restart drops the snapshot; on an ACTIVE entry it opens another one, on a DRAINING one the read is held
first, and meets the install if its snapshot was the last user. -/
theorem restartingReadDiscardsSnapshot : Obligations.RestartingReadDiscardsSnapshot := by
  unfold Obligations.RestartingReadDiscardsSnapshot
  intro i s p a e c d x data coverage timer v u arrives found serves read bytes free policy on opened again unasked
  have restarts : (s.begin.arrive p).classify p (arrival a) = (s.begin.arrive p).snapshotRestart p (arrival a) e c d := by
    rw [classify_snapshotRead (w := s.begin.arrive p) (h := arrival a) found serves read bytes free policy,
      snapshotRead_opened (w := s.begin.arrive p) (h := arrival a) on opened]
    exact if_pos again
  have isDraining := State.serves_isDraining serves
  rw [(exec_arrival arrives).1, restarts]
  refine ⟨fun active users => ?_, fun r draining more => ?_, fun r draining last waits quiet => ?_⟩
  · obtain rfl : d = false := by simpa [active, Entry.isDraining, eq_comm] using isDraining
    have keeps := keepsContent_of_active active
    have dropped : ((s.begin.arrive p).dropSnapshot p e).s =
        ((s.begin.arrive p).s.withSnaps p _).withEntry e (.active c v (u - 1)) :=
      (dropSnapshot_left (w := s.begin.arrive p) on unasked).trans (left_of_active (s := State.withSnaps _ p _) active)
    have unmarked := dropSnapshot_unmarked (w := s.begin.arrive p) on rfl (holds_of_unheld (arrive_unheld arrives) _)
      (leaveMarks_of_keepsContent (s := (s.begin.arrive p).s) keeps)
    have silent := (dropSnapshot_reports (w := s.begin.arrive p) on).trans (leaveReports_of_keepsContent (t := s) keeps)
    have opens := openSnapshot_opens (w := (s.begin.arrive p).dropSnapshot p e) (p := p) (h := arrival a) (e := e) (c := c)
      (v := v) (u := u - 1) (by rw [dropped, withEntry_entry])
    rw [dropped, opensSnapshot_of_freed (s := (s.begin.arrive p).s) (arrival a) active users] at opens
    rw [Work.snapshotRestart, if_neg (by simp), Work.finish_quiet ((openSnapshot_again ..).trans unmarked),
      Work.close_nil ((openSnapshot_reports ..).trans silent), opens]
    cases p <;> rfl
  · obtain rfl : d = true := by simpa [draining, Entry.isDraining, eq_comm] using isDraining
    have keeps := keepsContent_of_draining draining more
    change Host.Outcome.next ((heldForDrain s p a e).dropSnapshot p e).finish = _
    have onNow : (heldForDrain s p a e).s.snapshotOn p e = some x := on
    have state := dropSnapshot_left onNow unasked
    have reports := dropSnapshot_reports onNow
    have unmarked := dropSnapshot_unmarked onNow rfl (by rw [heldForDrain_s, holds_heldAs]; rfl)
      (leaveMarks_of_keepsContent (s := (heldForDrain s p a e).s) keeps)
    rw [Work.finish_quiet unmarked, Work.close_nil (reports.trans (leaveReports_of_keepsContent (t := s) keeps)), state,
      left_of_draining (s := State.withSnaps (heldForDrain s p a e).s p _) draining more, heldForDrain_s]
    rfl
  · obtain rfl : d = true := by simpa [draining, Entry.isDraining, eq_comm] using isDraining
    obtain ⟨marked, alone⟩ := heldForDrain_marks (p := p) (a := a) draining last quiet
    have onNow : (heldForDrain s p a e).s.snapshotOn p e = some x := on
    obtain ⟨installed, report⟩ := left_of_last (t := State.withSnaps (heldForDrain s p a e).s p _) draining last
    have state := (dropSnapshot_left onNow unasked).trans installed
    have reports := (dropSnapshot_reports onNow).trans report
    rw [heldForDrain_s] at state
    have marks := fun q => dropSnapshot_again onNow q
    simp only [heldForDrain_s] at marks
    have goes : ∀ t, State.arrivalGoesOn _ p a t → _ := fun t leads =>
      finish_arrivalGoesOn_one (t := t) (bare := ((s.withArrival p .idle).withSnaps p
        ((s.snaps.get p).eraseP fun y => y.entry == e)).installedAs e r.installed)
        (cause := .drain) (entry := some e) (state.trans (by cases p <;> rfl)) waits
        ((marks p).trans (by rw [marked, Bool.or_true]))
        ((marks p.other).trans (by rw [alone]; cases p <;> rfl)) leads reports
    change (_ → Host.Outcome.next ((heldForDrain s p a e).dropSnapshot p e).finish = _)
      ∧ ∀ d, _ → _ → _ → Host.Outcome.next ((heldForDrain s p a e).dropSnapshot p e).finish = _
    refine ⟨fun unfound => ?_, ?_⟩
    · rw [goes _ (.inl ⟨unfound, rfl⟩)]
      rfl
    · rintro d rfl found opens
      rw [goes _ (.inr ⟨e, d, 0, 0, found, withEntry_entry .., .inl ⟨opens, rfl⟩⟩)]
      rfl

/-! ## Writes that discard their port's snapshot (R61) -/

section OwnSnapshot
variable {i : Instr} {s : State} {p : Port} {e : EntryIndex} {a : Access} {c : Content} {v : BitVec 16} {u : Nat}
  {r : Replacement} {x : Snapshot}

/-- The state without the port's snapshot on the entry and its user. -/
def snapshotGone (s : State) (p : Port) (e : EntryIndex) : State :=
  (s.withSnaps p ((s.snaps.get p).eraseP fun y => y.entry == e)).left e

theorem snapshotOn_of_count (one : s.snapshotCount p e = 1) : ∃ x, s.snapshotOn p e = some x := by
  have pos : 0 < (s.snaps.get p).countP fun y => y.entry == e := Nat.lt_of_lt_of_eq Nat.zero_lt_one one.symm
  obtain ⟨x, among, named⟩ := List.countP_pos_iff.mp pos
  exact Option.isSome_iff_exists.mp (List.find?_isSome.mpr ⟨x, among, named⟩)

theorem snapshotOn_gone (one : s.snapshotCount p e = 1) : (snapshotGone s p e).snapshotOn p e = none := by
  have gone : countOn Snapshot.entry ((s.snaps.get p).eraseP fun y => y.entry == e) e = 0 := by
    rw [countOn_eraseP, if_pos rfl]
    exact Nat.sub_eq_zero_of_le one.le
  unfold snapshotGone State.snapshotOn
  rw [left_snaps, State.withSnaps, PerPort.get_set_same]
  exact List.find?_eq_none.mpr fun y among => List.countP_eq_zero.mp gone y among

/-- The discard at the arrival leaves what the arrival without the snapshot begins with. -/
theorem dropSnapshot_arrive (arrives : arrivalOf i s = some (p, a)) (on : s.snapshotOn p e = some x)
    (unasked : s.noFillWaits p e = true) (keeps : s.keepsContent e = true) :
    (s.begin.arrive p).dropSnapshot p e = (snapshotGone s p e).begin.arrive p := by
  refine work_ext ?_ ?_ ?_
  · exact (dropSnapshot_left (w := s.begin.arrive p) on unasked)
  · exact (dropSnapshot_reports (w := s.begin.arrive p) on).trans (leaveReports_of_keepsContent (t := s) keeps)
  · exact dropSnapshot_unmarked (w := s.begin.arrive p) on rfl (holds_of_unheld (arrive_unheld arrives) _)
      (leaveMarks_of_keepsContent (s := (s.begin.arrive p).s) keeps)

theorem content_of_left (keeps : s.keepsContent e = true) (f : EntryIndex) :
    ((s.left e).entry f).content? = (s.entry f).content? := by
  by_cases same : f = e
  · subst same
    unfold State.keepsContent at keeps
    rw [left_entry]
    cases entry : s.entry f with
    | draining c v u r =>
      simp only [entry, decide_eq_true_eq] at keeps
      exact content_left (x := .draining c v u r) keeps
    | _ => rfl
  · rw [left_entry_ne s same]

/-- An entry that keeps its content serves accesses as before. -/
theorem serves_left (keeps : s.keepsContent e = true) :
    ∃ c d, s.serves e c d = true ∧ (s.left e).serves e c d = true := by
  unfold State.keepsContent at keeps
  cases entry : s.entry e with
  | active c v u => exact ⟨c, false, serves_of_active entry, serves_of_active (by rw [left_entry, entry]; rfl)⟩
  | draining c v u r =>
    simp only [entry, decide_eq_true_eq] at keeps
    exact ⟨c, true, serves_of_draining entry,
      serves_of_draining (u := u - 1) (by rw [left_entry, entry, Entry.left, if_neg (by omega)])⟩
  | empty => simp [entry] at keeps
  | poisoned c v r k => simp [entry] at keeps

/-- The rest of a write's classification looks at the state without the snapshot alone. -/
theorem classifyOn_discarded {w x : Work} {h : Held} {d : Bool} (write : h.access.direction = .write)
    (dropped : w.dropSnapshot p e = x) (fresh : x.s.snapshotOn p e = none) :
    w.classifyOn p h e c d = x.classifyOn p h e c d := by
  simp only [Work.classifyOn, write, if_true, dropped, Work.dropSnapshot_none fresh]

/-- After an install, the write is denied or classified again (R61). -/
theorem classifyOn_installed {w x : Work} {h : Held} (write : h.access.direction = .write) (dropped : w.dropSnapshot p e = x)
    (installed : (x.s.entry e).isDraining = false) :
    w.classifyOn p h e c true =
      if h.access.objectBytes c ≠ [] ∧ c.allows p = false then x.denyWrite p h e else x.holdEnded p h e := by
  by_cases padding : h.access.objectBytes c = []
  · simp [Work.classifyOn, write, dropped, installed, padding]
  · by_cases allowed : c.allows p = true <;> simp [Work.classifyOn, write, dropped, installed, padding, allowed]

theorem arrive_s_idle (arrives : arrivalOf i s = some (p, a)) : (s.begin.arrive p).s = s.withArrival p .idle := by
  have idle := (exec_arrival arrives).2
  unfold State.withArrival
  rw [← idle]
  rfl

theorem installed_isDraining (r : Replacement) : r.installed.isDraining = false := by cases r <;> rfl

end OwnSnapshot

/-- Settles O16. The discard comes first. It leaves the arrival of the state without the snapshot; where it installs, a write that
is denied is denied with the install, and any other is classified again. -/
theorem ownWriteDiscardsOwnSnapshot : Obligations.OwnWriteDiscardsOwnSnapshot := by
  unfold Obligations.OwnWriteDiscardsOwnSnapshot
  intro i s p a e arrives write found one unasked
  obtain ⟨x, on⟩ := snapshotOn_of_count one
  refine ⟨fun keeps => ?_, fun c v u r draining last waits quiet => ?_⟩
  · rw [userLeft_of_keepsContent (t := s.withSnaps p _) keeps]
    have arrivesThen : arrivalOf i (snapshotGone s p e) = some (p, a) := arrives
    change _ = exec i (snapshotGone s p e)
    obtain ⟨c, d, serves, servesThen⟩ := serves_left (s := s.withSnaps p _) keeps
    have foundThen : (snapshotGone s p e).lookup a.word = some e :=
      (lookup_congr (content_of_left (s := s.withSnaps p _) keeps)).trans found
    rw [(exec_arrival arrives).1, (exec_arrival arrivesThen).1,
      Work.classify_serves (w := s.begin.arrive p) (h := arrival a) found serves,
      Work.classify_serves (w := (snapshotGone s p e).begin.arrive p) (h := arrival a) foundThen servesThen,
      classifyOn_discarded write (dropSnapshot_arrive arrives on unasked keeps) (snapshotOn_gone one)]
  · have state := (dropSnapshot_left (w := s.begin.arrive p) on unasked).trans
      (left_of_last (t := State.withSnaps (s.begin.arrive p).s p _) draining last).1
    have reports : ((s.begin.arrive p).dropSnapshot p e).reports = [installReport e r] :=
      (dropSnapshot_reports (w := s.begin.arrive p) on).trans (left_of_last draining last).2
    have unmarked := dropSnapshot_unmarked (w := s.begin.arrive p) on rfl (holds_of_unheld (arrive_unheld arrives) _)
      fun q => (leaveMarks_congr (s := s) (t := (s.begin.arrive p).s) (by cases p <;> cases q <;> rfl) rfl).trans
        (leaveMarks_of_quiet (leavesQuietly_of_unconcerned draining quiet) q)
    rw [arrive_s_idle arrives] at state
    have outcome := classifyOn_installed (w := s.begin.arrive p) (h := arrival a) (c := c) write rfl
      (by rw [state]; exact (congrArg Entry.isDraining (withEntry_entry ..)).trans (installed_isDraining r))
    rw [(exec_arrival arrives).1,
      Work.classify_serves (w := s.begin.arrive p) (h := arrival a) found (serves_of_draining (s := s) draining), outcome]
    generalize (s.begin.arrive p).dropSnapshot p e = w at *
    refine ⟨fun bytes denied => ?_, fun ends => ?_⟩
    · rw [if_pos (show (arrival a).access.objectBytes c ≠ [] ∧ _ from ⟨bytes, denied⟩),
        Work.finish_quiet (w := w.denyWrite p (arrival a) e) unmarked]
      have refused : (w.denyWrite p (arrival a) e).s = w.s.withPort p (refusedWith a) := rfl
      have either := Work.close_two (w := w.denyWrite p (arrival a) e) (x := installReport e r) (congrArg (· ++ [_]) reports) nofun
      rw [refused, state] at either
      exact ⟨_, rfl, either.symm⟩
    · have goes : ∀ t, State.arrivalGoesOn _ p a t → _ := fun t leads =>
        finish_arrivalGoesOn_one (w := w.holdEnded p (arrival a) e) (t := t) (bare := ((s.withArrival p .idle).withSnaps p
          ((s.snaps.get p).eraseP fun y => y.entry == e)).installedAs e r.installed) (cause := .drain) (entry := some e)
          (congrArg (State.withPort · p (heldAs a .drain (some e))) state) waits (PerPort.get_set_same ..)
          ((PerPort.get_set_other ..).trans ((unmarked_iff w).mp unmarked _)) leads reports
      have allowed : ¬((arrival a).access.objectBytes c ≠ [] ∧ c.allows p = false) := fun ⟨bytes, denied⟩ =>
        ends.elim bytes fun allows => by simp [denied] at allows
      rw [if_neg allowed]
      refine ⟨fun unfound => ?_, ?_⟩
      · rw [goes _ (.inl ⟨unfound, rfl⟩)]
        rfl
      · rintro d rfl foundNow opens
        rw [goes _ (.inr ⟨e, d, 0, 0, foundNow, withEntry_entry .., .inr ⟨opens, rfl⟩⟩), opensRecord_enter]
        rfl

/-! ## Writes that restart a record (R74) -/

section RecordRestarts
variable {s : State} {p : Port} {e : EntryIndex} {a : Access} {c : Content} {v : BitVec 16} {u : Nat} {r : OpenRecord}

/-- What a restart of a record reports (R74). -/
def stageRestarted (p : Port) (a : Access) (e : EntryIndex) (r : OpenRecord) : Report :=
  { source := .stagingUnit, kind := .stageRestarted, port := some p, entry := some e, address := some a.address,
    detail := some (maskCount r.bytes) }

/-- The work of a restart held with cause DRAIN before the leaving of its record is reported (R146). -/
def restartHeld (s : State) (p : Port) (a : Access) (e : EntryIndex) (r : OpenRecord) : Work :=
  ((s.begin.arrive p).report (stageRestarted p a e r)).hold p (arrival a) .drain (some e)

theorem restartHeld_s : (restartHeld s p a e r).s = s.withArrival p (heldAs a .drain (some e)) := arrive_setPortState_s ..

/-- Whom the discard of the record marks, where nobody waits for the claim: whom its leaving marks. -/
theorem restartHeld_marks (on : s.recordOn p e = some r)
    (claimless : s.nobodyHeld (fun h => h.cause == .claim && h.entry == some e) = true) (q : Port) :
    ((restartHeld s p a e r).dropRecord p e).again.get q =
      (s.withArrival p (heldAs a .drain (some e))).leaveMarks q e := by
  have onNow : (restartHeld s p a e r).s.recordOn p e = some r := on
  have unclaimed : ∀ q, (s.withArrival p (heldAs a .drain (some e))).holds q
      (fun h => h.cause == .claim && h.entry == some e) = false := fun q => by
    by_cases same : q = p
    · rw [same, holds_heldAs]
      rfl
    · rw [eq_other_of_ne same]
      unfold State.holds
      rw [withArrival_other]
      exact (nobodyHeld_iff _).mp claimless p.other
  have quiet : (restartHeld s p a e r).again.get q = false := by cases q <;> rfl
  rw [dropRecord_again onNow, restartHeld_s, quiet, unclaimed, Bool.and_false, Bool.or_false]
  by_cases same : q = p
  · rw [same, holds_heldAs]
    simp
  · simp [same]

/-- A record opened where one has gone: the count of users ends as it was. -/
theorem opensRecord_of_restarted {rest : List OpenRecord} {h : Held} (active : s.entry e = .active c v u) (users : 1 ≤ u) :
    ((s.withRecs p rest).withEntry e (.active c v (u - 1))).opensRecord p h e c v (u - 1) =
      let bytes := enterBytes (List.replicate (4 * c.extent) none) c h.access
      let answered := s.withPort p (if h.released = true then .idle else writtenOk h.access)
      let claimed := if c.claim = .exclusive then answered.withClaim e (some p) else answered
      if c.written bytes = true then (claimed.withRecs p rest).queued { port := p, entry := e, bytes := bytes } c
      else
        claimed.withRecs p
          (rest ++ [{ entry := e, bytes := bytes, timer := { limit := c.stagingLimit, counted := 0 } }]) := by
  have again : (s.table.set e (.active c v (u - 1))).set e (.active c v (u - 1 + 1)) = s.table := by
    rw [Nat.sub_add_cancel users, Vector.set_set, ← active]
    exact congrArg State.table (withEntry_self s e)
  by_cases exclusive : c.claim = .exclusive <;>
    by_cases full : c.written (enterBytes (List.replicate (4 * c.extent) none) c h.access) = true <;>
    simp only [State.opensRecord, exclusive, full, if_true, if_false, reduceCtorEq, State.queued, State.withRecs, State.withPort,
      State.withEntry, State.withClaim, again, PerPort.set_set, PerPort.get_set_same]

end RecordRestarts

/-- Settles O20. The restart is reported; on an ACTIVE entry a new record opens, on a DRAINING one the write is held first, and
meets the install if its record was the last user. -/
theorem leadByteRestartsRecord : Obligations.LeadByteRestartsRecord := by
  unfold Obligations.LeadByteRestartsRecord
  intro i s p a e c d r v u arrives found serves write bytes unread allowed policy on one lead
  have restarts : (s.begin.arrive p).classify p (arrival a) =
      (s.begin.arrive p).recordRestart p (arrival a) e c d r.bytes := by
    rw [classify_stagingWrite (w := s.begin.arrive p) (h := arrival a) found serves write bytes unread allowed policy,
      stagingWrite_open (w := s.begin.arrive p) on]
    exact if_pos lead
  have isDraining := State.serves_isDraining serves
  rw [(exec_arrival arrives).1, restarts]
  refine ⟨fun active users => ?_, fun q draining more claimless => ?_, fun q draining last waits claimless quiet => ?_⟩
  · obtain rfl : d = false := by simpa [active, Entry.isDraining, eq_comm] using isDraining
    have keeps := keepsContent_of_active active
    have fresh := List.find?_eq_none.mpr fun y among => Bool.eq_false_iff.mp (recordOn_eraseP_only one y among)
    change Host.Outcome.next ((((s.begin.arrive p).report (stageRestarted p a e r)).setRecs p
      ((s.recs.get p).eraseP fun y => y.entry == e)).leave e |>.openAndEnter p (arrival a) e c).finish = _
    generalize (s.recs.get p).eraseP (fun y => y.entry == e) = rest at *
    have state := leave_s (((s.begin.arrive p).report (stageRestarted p a e r)).setRecs p rest) e
    have reports : _ = [stageRestarted p a e r] :=
      (leave_reports (((s.begin.arrive p).report (stageRestarted p a e r)).setRecs p rest) e).trans
        (congrArg ([stageRestarted p a e r] ++ ·) (leaveReports_of_keepsContent (t := s) keeps))
    have unmarked := (unmarked_iff _).mpr fun q =>
      (leave_again (((s.begin.arrive p).report (stageRestarted p a e r)).setRecs p rest) q e).trans
        (Bool.or_eq_false_iff.mpr ⟨by cases q <;> rfl, leaveMarks_of_keepsContent (s := (s.begin.arrive p).s) keeps q⟩)
    change _ = State.left ((s.begin.arrive p).s.withRecs p rest) e at state
    rw [left_of_active (s := (s.begin.arrive p).s.withRecs p rest) active] at state
    generalize (((s.begin.arrive p).report (stageRestarted p a e r)).setRecs p rest).leave e = y at *
    have opens := openAndEnter_opens (w := y) (p := p) (h := arrival a) (e := e) (c := c) (v := v) (u := u - 1)
      (by rw [state, withEntry_entry]) (by rw [state]; exact (congrArg (List.find? _) (PerPort.get_set_same ..)).trans fresh) write
    rw [state, opensRecord_of_restarted (s := (s.begin.arrive p).s) active users] at opens
    rw [Work.finish_quiet ((openAndEnter_again ..).trans unmarked), Work.close_one ((openAndEnter_reports ..).trans reports),
      opens]
    by_cases exclusive : c.claim = .exclusive <;>
      by_cases full : c.written (enterBytes (List.replicate (4 * c.extent) none) c a) = true <;>
        cases p <;> simp only [arrival, exclusive, full, if_true, if_false, reduceCtorEq] <;> rfl
  · obtain rfl : d = true := by simpa [draining, Entry.isDraining, eq_comm] using isDraining
    have onNow : (restartHeld s p a e r).s.recordOn p e = some r := on
    have keeps := keepsContent_of_draining draining more
    have state := (dropRecord_s onNow).trans (left_of_draining ((claimChecked_entry ..).trans draining) more)
    have reports := dropRecord_reports onNow
    have unmarked := (unmarked_iff _).mpr fun q => (restartHeld_marks (a := a) on claimless q).trans
      (leaveMarks_of_keepsContent (s := s.withArrival p _) keeps q)
    change Host.Outcome.next ((restartHeld s p a e r).dropRecord p e).finish = _
    rw [restartHeld_s] at state
    have one : _ = [stageRestarted p a e r] :=
      reports.trans (congrArg ([stageRestarted p a e r] ++ ·) (leaveReports_of_keepsContent (t := s) keeps))
    rw [Work.finish_quiet unmarked, Work.close_one one, state]
    exact congrArg (fun t => Host.Outcome.next (State.drivePins (t.withEntry e (.draining c v (u - 1) q))))
      (claimChecked_enter ((s.withArrival p (heldAs a .drain (some e))).withRecs p _) p e (stageRestarted p a e r))
  · obtain rfl : d = true := by simpa [draining, Entry.isDraining, eq_comm] using isDraining
    obtain ⟨marked, alone⟩ := heldForDrain_marks (p := p) (a := a) draining last quiet
    have onNow : (restartHeld s p a e r).s.recordOn p e = some r := on
    have marks := restartHeld_marks (p := p) (a := a) on claimless
    have state := dropRecord_s onNow
    obtain ⟨installed, report⟩ := left_of_last
      (t := (State.withRecs (restartHeld s p a e r).s p _).claimChecked p e) ((claimChecked_entry ..).trans draining) last
    rw [installed, claimChecked_installedAs, restartHeld_s] at state
    rw [claimChecked_entry] at report
    have reports := (dropRecord_reports onNow).trans (congrArg (_ ++ ·) report)
    have goes : ∀ t, State.arrivalGoesOn _ p a t → _ := fun t leads =>
      finish_arrivalGoesOn_two (t := t) (bare := ((s.withArrival p .idle).withRecs p
        ((s.recs.get p).eraseP fun y => y.entry == e)).installedAs e q.installed) (cause := .drain) (entry := some e)
        (x := stageRestarted p a e r)
        (state.trans (by cases p <;> rfl)) waits ((marks p).trans marked) ((marks p.other).trans alone) leads reports nofun
    refine ⟨fun unfound => ⟨_, rfl, goes _ (.inl ⟨unfound, rfl⟩)⟩, ?_⟩
    rintro d rfl foundNow opens
    exact ⟨_, rfl, goes _ (.inr ⟨e, d, 0, 0, foundNow, withEntry_entry .., .inr ⟨opens, rfl⟩⟩)⟩

end Sys2Proof.Proofs
end

section
/-! PROOFS. The ends of plain transfers and fills (R34, R48, R49, R109 to R112, R123), and the statements O32, O33, O34, O35. -/

namespace Sys2Proof.Machine

open Sys2Proof

/-! ## RECOVERED (R109) -/

/-- What RECOVERED reports. -/
def recoveredReport (f : InFlight) : Report :=
  { source := .memoryPort, kind := .recovered, port := some f.transfer.purpose.port, entry := f.transfer.purpose.entry?,
    address := f.transfer.purpose.address?, detail := some f.attempts }

/-- What a transfer that succeeds reports. -/
def recoveredReports (f : InFlight) : List Report := if 2 ≤ f.attempts then [recoveredReport f] else []

/-- The work of a transfer's end once the memory port is idle and RECOVERED is reported. -/
def landed (s : State) (f : InFlight) : Work := (s.begin.setInFlight none).reportRecovered f

section Landed
variable (s : State) (f : InFlight)

@[simp] theorem landed_s : (landed s f).s = s.withInFlight none := by
  unfold landed Work.reportRecovered
  split <;> rfl

@[simp] theorem landed_reports : (landed s f).reports = recoveredReports f := by
  unfold landed Work.reportRecovered recoveredReports
  split <;> rfl

@[simp] theorem landed_again : (landed s f).again = ⟨false, false⟩ := by
  unfold landed Work.reportRecovered
  split <;> rfl

/-- The state an end of a transfer with these reports leaves. -/
def State.afterRecovered (s : State) (f : InFlight) : State :=
  { s with events := if 2 ≤ f.attempts then s.events.enter (recoveredReport f) else s.events }

theorem close_recovered {w : Work} (reports : w.reports = recoveredReports f) :
    w.close = (w.s.afterRecovered f).drivePins := by
  unfold recoveredReports at reports
  unfold State.afterRecovered
  split at reports
  · next more => rw [if_pos more, Work.close_one reports]
  · next once => rw [if_neg once, Work.close_nil reports]

end Landed

theorem takeAnswer_done {w : Work} {f : InFlight} {mst : BitVec 2} (low : mst.toNat ≤ 1) :
    w.takeAnswer f mst = w.transferDone f [] := if_pos (decide_eq_true low)

theorem attemptFailed_last {w : Work} {f : InFlight} (last : f.allowance ≤ f.attempts) :
    w.attemptFailed f = w.transferFailed f := if_neg (Nat.not_lt.mpr last)

/-! ## Whose access a transfer answers (R123) -/

section Running
variable {s : State} {w : Work} {p : Port} {f : InFlight} {r : Running}

theorem runningOf_orphan (orphan : f.orphan = true) : s.runningOf p f = none := by simp [State.runningOf, orphan]

theorem runningOf_own (own : f.orphan = false) (running : (s.ports.get p).state = .inTransfer r) :
    s.runningOf p f = some r := by
  simp [State.runningOf, own, running]

/-- The state of a port whose transfer has ended. -/
theorem replyTransfer_s (ans : Answer) :
    (w.replyTransfer p r ans).s =
      w.s.withPort p (answeredState r.access r.released (if r.flushed then errorAnswer r.access else ans)) := rfl

/-- An error answer is one whether the access is flushed or not. -/
theorem replyTransfer_error :
    (w.replyTransfer p r (errorAnswer r.access)).s =
      w.s.withPort p (if r.released = true then .idle else refusedWith r.access) := by
  rw [replyTransfer_s, ite_self]
  rfl

/-! ## Failures (R34, R49, R111, R112) -/

/-- What the failure of a plain transfer reports. -/
def plainFailedReport (p : Port) (f : InFlight) : Report :=
  { source := .port p, kind := if f.transfer.isRead then .readFailed else .writeFailed, port := some p,
    entry := f.transfer.purpose.entry?, address := f.transfer.purpose.address?, detail := some f.attempts }

/-- What the failure of a fill reports. -/
def fillFailedReport (p : Port) (address : ByteAddr) (e : EntryIndex) (f : InFlight) : Report :=
  { source := .snapshotUnit, kind := .readFailed, port := some p, entry := some e, address := some address,
    detail := some f.attempts }

theorem plainFailed_nobody (nobody : w.s.runningOf p f = none) : w.plainFailed p f = w.report (plainFailedReport p f) := by
  unfold Work.plainFailed
  rw [nobody]
  rfl

theorem plainFailed_own (mine : w.s.runningOf p f = some r) :
    w.plainFailed p f = (w.report (plainFailedReport p f)).replyTransfer p r (errorAnswer r.access) := by
  unfold Work.plainFailed
  rw [mine]
  rfl

theorem fillFailed_nobody {a : ByteAddr} {e : EntryIndex} (nobody : w.s.runningOf p f = none) :
    w.fillFailed p a e f = w.report (fillFailedReport p a e f) := by
  unfold Work.fillFailed
  rw [nobody]
  rfl

theorem fillFailed_own {a : ByteAddr} {e : EntryIndex} (mine : w.s.runningOf p f = some r) :
    w.fillFailed p a e f =
      if r.flushed = true then (w.report (fillFailedReport p a e f)).replyTransfer p r (errorAnswer r.access)
      else ((w.report (fillFailedReport p a e f)).replyTransfer p r (errorAnswer r.access)).dropSnapshot p e := by
  unfold Work.fillFailed
  rw [mine]
  rfl

/-- An answered access is not HELD. -/
theorem answeredState_unheld (a : Access) (released : Bool) (ans : Answer) (h : Held) : answeredState a released ans ≠ .held h := by
  unfold answeredState
  split <;> exact nofun

end Running

end Sys2Proof.Machine

namespace Sys2Proof.Proofs

open Sys2Proof Sys2Proof.Machine

/-! ## Plain transfers (R34, R112) -/

section Plain
variable {s : State} {f : InFlight} {p : Port} {addr : ByteAddr} {e : Option EntryIndex} {i : Instr} {word : Word}

/-- A plain transfer succeeds with the word read, or 0 for a write. -/
theorem exec_of_plainSuccess (flying : s.mem.inFlight = some f) (plain : f.transfer.purpose = .plain p addr e)
    (succeeds : (∃ mst, i = .memoryReadWord word ⟨true, mst⟩ ∧ mst.toNat ≤ 1 ∧ f.transfer.isRead = true ∧ f.taken = []
        ∧ f.transfer.length = 1)
      ∨ (∃ mst, i = .memoryWriteAnswer ⟨true, mst⟩ ∧ mst.toNat ≤ 1 ∧ f.transfer.isRead = false ∧ word = 0)) :
    exec i s = .next ((landed s f).plainDone p f word).finish := by
  rcases succeeds with ⟨mst, rfl, low, reads, first, single⟩ | ⟨mst, rfl, low, writes, rfl⟩
  · rw [exec_memoryReadWord flying reads, takeWord_good low, if_pos (by rw [single]; exact Nat.le_add_left ..),
      Work.transferDone, plain, first]
    rfl
  · rw [exec_memoryWriteAnswer flying writes, takeAnswer_done low, Work.transferDone, plain]
    rfl

end Plain

/-- Settles O32. The access that asked for the transfer is answered, if it is there still. -/
theorem plainTransferSuccessAnswersAccess : Obligations.PlainTransferSuccessAnswersAccess := by
  unfold Obligations.PlainTransferSuccessAnswersAccess
  intro i s f p addr e word flying plain succeeds
  rw [exec_of_plainSuccess flying plain succeeds]
  have ended : (if 2 ≤ f.attempts then
      (s.withInFlight none).recorded .recovered (some p) e (some addr) (some f.attempts)
    else s.withInFlight none) = (s.withInFlight none).afterRecovered f := by
    simp only [State.afterRecovered, recoveredReport, plain, Purpose.port, Purpose.entry?, Purpose.address?]
    split <;> rfl
  rw [ended]
  refine ⟨fun orphan => ?_, fun r own running => ?_⟩
  · have nobody : (landed s f).s.runningOf p f = none := runningOf_orphan orphan
    rw [Work.plainDone, nobody, Work.finish_quiet (landed_again ..), close_recovered f (landed_reports ..), landed_s]
  · have mine : (landed s f).s.runningOf p f = some r := runningOf_own own (by rw [landed_s]; exact running)
    rw [Work.plainDone, mine, Work.finish_quiet (w := (landed s f).replyTransfer p r _) (landed_again ..),
      close_recovered f (w := (landed s f).replyTransfer p r _) (landed_reports ..), replyTransfer_s, landed_s]
    cases r.released <;> cases r.flushed <;> rfl

/-- Settles O33. The failure is reported, and the access that asked for the transfer answered with error. -/
theorem plainTransferFailureAnswersWithError : Obligations.PlainTransferFailureAnswersWithError := by
  unfold Obligations.PlainTransferFailureAnswersWithError
  intro i s f p addr e flying plain last fails
  rw [exec_of_failsAttempt flying fails, attemptFailed_last last, Work.transferFailed, plain]
  dsimp only
  refine ⟨fun orphan => ?_, fun r own running => ?_⟩
  · have nobody : (s.withInFlight none).runningOf p f = none := runningOf_orphan orphan
    rw [plainFailed_nobody (w := s.begin.setInFlight none) nobody, Work.finish_quiet rfl, Work.close_one rfl,
      plainFailedReport, plain]
    rfl
  · have mine : (s.withInFlight none).runningOf p f = some r := runningOf_own own running
    rw [plainFailed_own (w := s.begin.setInFlight none) mine, Work.finish_quiet rfl, Work.close_one rfl,
      replyTransfer_error, plainFailedReport, plain]
    rfl

/-! ## Fills (R48, R49, R111) -/

section Fill
variable {s : State} {w : Work} {f : InFlight} {p : Port} {addr : ByteAddr} {e : EntryIndex} {r : Running} {c : Content}
  {x : Snapshot} {data : List Word}

/-- A fill succeeds with all its words. -/
theorem exec_of_fillSuccess {word : Word} {mst : BitVec 2} (flying : s.mem.inFlight = some f)
    (fill : f.transfer.purpose = .fill p addr e) (reads : f.transfer.isRead = true) (low : mst.toNat ≤ 1)
    (length : f.transfer.length = f.taken.length + 1) :
    exec (.memoryReadWord word ⟨true, mst⟩) s =
      .next ((landed s f).fillDone p e f (f.taken.map Prod.fst ++ [word])).finish := by
  rw [exec_memoryReadWord flying reads, takeWord_good low, if_pos length.le, Work.transferDone, fill, List.map_append]
  rfl

/-- A flushed read is answered with error, whatever is left of its snapshot (R64, R135). -/
theorem fillDone_flushed (mine : w.s.runningOf p f = some r) (flushed : r.flushed = true) :
    w.fillDone p e f data = w.replyTransfer p r (errorAnswer r.access) := by
  unfold Work.fillDone
  rw [mine]
  dsimp only
  split
  · rw [if_pos flushed]
  · rfl

theorem fillDone_open (mine : w.s.runningOf p f = some r) (live : r.flushed = false) (on : w.s.snapshotOn p e = some x)
    (content : (w.s.entry e).content? = some c) :
    w.fillDone p e f data =
      if c.covered (cover [] (r.access.objectBytes c)) = true then
        (w.replyTransfer p r (okAnswer r.access (snapshotWord data c r.access))).dropSnapshot p e
      else
        (w.replyTransfer p r (okAnswer r.access (snapshotWord data c r.access))).setSnaps p
          ((w.s.snaps.get p).map
            (withFill e data (cover [] (r.access.objectBytes c)) c.snapshotLimit)) := by
  unfold Work.fillDone
  rw [mine]
  dsimp only
  rw [on, content]
  simp only [live]
  rfl

/-- The snapshot of a port that has just been answered leaves. -/
theorem dropSnapshot_answered {b : State} {y : PortState} (state : w.s = b.withPort p y) (unheld : ∀ h, y ≠ .held h)
    (unmarked : w.again = ⟨false, false⟩) (on : b.snapshotOn p e = some x) (unasked : b.noFillWaits p e = true)
    (quiet : b.leaveMarks p.other e = false) :
    (w.dropSnapshot p e).s = ((b.withPort p y).withSnaps p ((b.snaps.get p).eraseP fun z => z.entry == e)).left e
      ∧ (w.dropSnapshot p e).reports = w.reports ++ leaveReports e (b.entry e)
      ∧ (w.dropSnapshot p e).finish = (w.dropSnapshot p e).close := by
  have onNow : w.s.snapshotOn p e = some x := by rw [state]; exact on
  have left := dropSnapshot_left onNow (by rw [state]; exact unasked)
  have reports := dropSnapshot_reports onNow
  have ends := dropSnapshot_finish onNow unmarked (by rw [state, withPort_state]; exact unheld)
    (by rw [state]; exact (leaveMarks_congr (withPort_other b p y) rfl).trans quiet)
  rw [state] at left reports
  exact ⟨left, reports, ends⟩

/-- One access covers an object only where the object is small. -/
theorem covered_cover (a : Access) (c : Content) :
    c.covered (cover [] (a.objectBytes c)) = c.covered (a.objectBytes c) := by
  rw [Bool.eq_iff_iff, Content.covered_iff, Content.covered_iff]
  refine ⟨fun all k small => ((mem_cover.mp (all k small)).2.resolve_left nofun),
    fun all k small => mem_cover.mpr ⟨?_, .inr (all k small)⟩⟩
  obtain ⟨-, l, lane, first⟩ := Access.mem_objectBytes.mp (all 0 (Nat.zero_lt_of_lt small))
  obtain ⟨-, m, other, place⟩ := Access.mem_objectBytes.mp (all k small)
  have low := (mem_laneList.mp other).1
  omega

end Fill

/-- Settles O34. The words open the snapshot and answer the read; a coverage already full drops the snapshot at once. -/
theorem fillSuccessOpensSnapshot : Obligations.FillSuccessOpensSnapshot := by
  unfold Obligations.FillSuccessOpensSnapshot
  intro s f p addr e word mst flying fill reads low length
  rw [exec_of_fillSuccess flying fill reads low length]
  have ended : (if 2 ≤ f.attempts then
      { s.withInFlight none with
        events := s.events.enter (note .recovered (some p) (some e) (some addr) (some f.attempts)) }
    else s.withInFlight none) = (s.withInFlight none).afterRecovered f := by
    simp only [State.afterRecovered, recoveredReport, fill, Purpose.port, Purpose.entry?, Purpose.address?]
    split <;> rfl
  dsimp only
  rw [ended]
  refine ⟨fun orphan => ?_, fun r own running => ?_⟩
  · have nobody : (landed s f).s.runningOf p f = none := runningOf_orphan orphan
    rw [Work.fillDone, nobody, Work.finish_quiet (landed_again ..), close_recovered f (landed_reports ..), landed_s]
  have mine : (landed s f).s.runningOf p f = some r := runningOf_own own (by rw [landed_s]; exact running)
  refine ⟨fun flushed => ?_, fun c d x live read on serves => ?_⟩
  · rw [fillDone_flushed mine flushed, Work.finish_quiet (w := (landed s f).replyTransfer p r _) (landed_again ..),
      close_recovered f (w := (landed s f).replyTransfer p r _) (landed_reports ..), replyTransfer_s, landed_s]
    cases r.released <;> rw [flushed] <;> rfl
  have onNow : (landed s f).s.snapshotOn p e = some x := by rw [landed_s]; exact on
  rw [fillDone_open mine live onNow (by rw [landed_s]; exact content_of_serves (s := s) serves), covered_cover]
  have answer : (if r.released = true then PortState.idle
      else .answered r.access { error := false, data := some (snapshotWord (f.taken.map Prod.fst ++ [word]) c r.access) }) =
      answeredState r.access r.released
        (okAnswer r.access (snapshotWord (f.taken.map Prod.fst ++ [word]) c r.access)) := by
    simp only [okAnswer, read]
    rfl
  rw [answer]
  generalize okAnswer r.access _ = ans
  have state : ((landed s f).replyTransfer p r ans).s =
      (s.withInFlight none).withPort p (answeredState r.access r.released ans) := by
    rw [replyTransfer_s, landed_s, live]
    rfl
  have reports : ((landed s f).replyTransfer p r ans).reports = recoveredReports f := landed_reports ..
  have unmarked : ((landed s f).replyTransfer p r ans).again = ⟨false, false⟩ := landed_again ..
  generalize (landed s f).replyTransfer p r ans = w at *
  refine ⟨fun partly => ?_, fun full unasked quiet => ⟨fun keepsOrOnce => ?_, fun v u q draining last more => ?_⟩⟩
  · rw [if_neg (by simp [partly]), Work.finish_quiet (w := w.setSnaps p _) unmarked,
      close_recovered f (w := w.setSnaps p _) reports, landed_s]
    change Host.Outcome.next (State.drivePins ((w.s.withSnaps p _).afterRecovered f)) = _
    rw [state]
    rfl
  · obtain ⟨left, all, ends⟩ := dropSnapshot_answered (b := s.withInFlight none) state (answeredState_unheld _ _ _) unmarked on
      unasked (leaveMarks_of_quiet quiet p.other)
    rw [if_pos full, ends]
    rw [reports] at all
    by_cases more : 2 ≤ f.attempts
    · have keeps := keepsOrOnce.resolve_right (Nat.not_lt.mpr more)
      rw [recoveredReports, if_pos more] at all
      rw [close_reported_left left all keeps, State.afterRecovered, if_pos more]
      rfl
    · rw [recoveredReports, if_neg more] at all
      rw [close_left left all, State.afterRecovered, if_neg more]
      rfl
  · obtain ⟨left, all, ends⟩ := dropSnapshot_answered (b := s.withInFlight none) state (answeredState_unheld _ _ _) unmarked on
      unasked (leaveMarks_of_quiet quiet p.other)
    rw [reports, recoveredReports, if_pos more] at all
    have either := close_reported_installed left all draining last nofun
    rw [if_pos full, ends]
    simp only [recoveredReport, fill] at either
    exact ⟨_, rfl, either⟩

/-- Settles O35. The failure is reported, the read answered with error, and the slot dropped unless a FLUSH has freed it. -/
theorem fillFailureFreesSlot : Obligations.FillFailureFreesSlot := by
  unfold Obligations.FillFailureFreesSlot
  intro i s f p addr e flying fill reads last fails
  have failing : Instr.failsAttempt i f := by
    rcases fails with ⟨data, mst, rfl, bad⟩ | due
    · exact .inl ⟨data, mst, rfl, reads, bad⟩
    · exact .inr (.inr due)
  rw [exec_of_failsAttempt flying failing, attemptFailed_last last, Work.transferFailed, fill]
  dsimp only
  refine ⟨fun orphan => ?_, fun r own running => ?_⟩
  · have nobody : (s.withInFlight none).runningOf p f = none := runningOf_orphan orphan
    rw [fillFailed_nobody (w := s.begin.setInFlight none) nobody, Work.finish_quiet rfl, Work.close_one rfl]
    rfl
  have mine : (s.withInFlight none).runningOf p f = some r := runningOf_own own running
  rw [fillFailed_own (w := s.begin.setInFlight none) mine]
  refine ⟨fun flushed => ?_, fun x live on unasked => ?_⟩
  · rw [if_pos flushed, Work.finish_quiet rfl, Work.close_one rfl, replyTransfer_error]
    rfl
  · rw [if_neg (by simp [live])]
    have state := replyTransfer_error (w := (s.begin.setInFlight none).report (fillFailedReport p addr e f)) (p := p) (r := r)
    have unheld : ∀ h, (if r.released = true then PortState.idle else refusedWith r.access) ≠ .held h := fun h => by
      split <;> exact nofun
    have drops := fun quiet => dropSnapshot_answered (b := s.withInFlight none) state unheld rfl on unasked quiet
    refine ⟨fun keeps => ?_, fun c v u q draining last quiet => ?_⟩
    · obtain ⟨left, all, ends⟩ := drops (leaveMarks_of_keepsContent (s := s) keeps p.other)
      rw [ends, close_reported_left left all keeps]
      rfl
    · obtain ⟨left, all, ends⟩ := drops (leaveMarks_of_quiet (leavesQuietly_of_unconcerned (s := s) draining quiet) p.other)
      have either := close_reported_installed left all draining last nofun
      rw [ends]
      exact ⟨_, rfl, either⟩

end Sys2Proof.Proofs
end

section
/-! PROOFS. The success of a commit (R13, R81, R87, R90), and the statement O36. -/

namespace Sys2Proof.Machine

open Sys2Proof

/-- The state once a commit's record is freed and the memory port idle: the engine asks for the next head's burst (R80, R81). -/
def State.recordFreed (s : State) (rest : List CommitRecord) : State :=
  { s with
    queue := rest
    mem := { s.mem with
      inFlight := none
      waitingCommit :=
        (rest.head?.bind fun n => ((s.entry n.entry).content?).map (commitTransfer n)).or s.mem.waitingCommit } }

section Done
variable {s : State} {f : InFlight} {r : CommitRecord} {rest : List CommitRecord} {c : Content} {v : BitVec 16} {u : Nat}
  {x : Replacement}

/-- The state a commit leaves before the user's leaving. -/
def State.versionRaised (s : State) (r : CommitRecord) (rest : List CommitRecord) : State :=
  ((s.recordFreed rest).claimChecked r.port r.entry).withEntry r.entry (s.entry r.entry).raised

theorem commitDone_left (head : s.queue = r :: rest) :
    (landed s f).commitDone.s = (s.versionRaised r rest).left r.entry := by
  rw [commitDone_s (w := landed s f) (r := r) (rest := rest) (by rw [landed_s]; exact head), landed_s]
  rfl

@[simp] theorem raiseVersion_reports (w : Work) (e : EntryIndex) : (w.raiseVersion e).reports = w.reports := by
  unfold Work.raiseVersion
  split <;> rfl

@[simp] theorem raiseVersion_again (w : Work) (e : EntryIndex) : (w.raiseVersion e).again = w.again := by
  unfold Work.raiseVersion
  split <;> rfl

theorem noticeOwnCommit_again (w : Work) (p : Port) (e : EntryIndex) (q : Port) :
    (w.noticeOwnCommit p e).again.get q =
      (w.again.get q || (decide (q = p) && (!(w.s.queue.any fun r => r.port == p && r.entry == e)
        && w.s.holds q fun h => h.cause == .ownCommit && h.entry == some e))) := by
  unfold Work.noticeOwnCommit
  split
  · next more => simp [more]
  · next last => rw [notify_again, Bool.eq_false_iff.mpr last, Bool.not_false, Bool.true_and]

/-- The work of a commit's end once the engine has taken the next head. -/
def nextHead (s : State) (f : InFlight) (rest : List CommitRecord) : Work := ((landed s f).setQueue rest).takeHead

theorem nextHead_s : (nextHead s f rest).s = s.recordFreed rest := by
  rw [nextHead, takeHead_s, Work.setQueue, landed_s]
  rfl

theorem nextHead_again (q : Port) : (nextHead s f rest).again.get q = false := by
  rw [nextHead, takeHead_again, Work.setQueue, landed_again]
  cases q <;> rfl

theorem commitDone_eq (head : s.queue = r :: rest) :
    (landed s f).commitDone =
      (((((nextHead s f rest).noticeRecord r.port).noticeOwnCommit r.port r.entry).releaseClaim r.port
        r.entry).raiseVersion r.entry).leave r.entry := by
  unfold Work.commitDone
  rw [landed_s]
  simp only [State.withInFlight, head]
  rfl

theorem commitDone_reports (head : s.queue = r :: rest) :
    (landed s f).commitDone.reports = recoveredReports f ++ leaveReports r.entry (s.entry r.entry).raised := by
  rw [commitDone_eq head, leave_reports, raiseVersion_reports, Work.releaseClaim_reports, Work.noticeOwnCommit_reports,
    Work.noticeRecord_reports, raiseVersion_s, withEntry_entry, Work.releaseClaim_s, claimChecked_entry,
    Work.noticeOwnCommit_s, Work.noticeRecord_s, nextHead_s, nextHead, takeHead_reports]
  exact congrArg (· ++ _) (landed_reports s f)

/-- Whom a commit's end marks. -/
theorem commitDone_again (head : s.queue = r :: rest) (q : Port) :
    (landed s f).commitDone.again.get q =
      (decide (q = r.port) && (s.holds q fun h => h.cause == .record)
        || (decide (q = r.port) && (!(rest.any fun n => n.port == r.port && n.entry == r.entry)
            && s.holds q fun h => h.cause == .ownCommit && h.entry == some r.entry))
        || ((s.recordFreed rest).claimFreed r.port r.entry && s.holds q fun h => h.cause == .claim && h.entry == some r.entry)
        || (s.versionRaised r rest).leaveMarks q r.entry) := by
  rw [commitDone_eq head, leave_again, raiseVersion_again, releaseClaim_again, noticeOwnCommit_again, Work.noticeRecord,
    notify_again, nextHead_again, raiseVersion_s, Work.releaseClaim_s, Work.noticeOwnCommit_s, Work.notify_s, nextHead_s,
    claimChecked_entry, Bool.false_or]
  rfl

/-- The claim is checked whatever the events are. -/
theorem claimChecked_afterRecovered (s : State) (p : Port) (e : EntryIndex) (f : InFlight) :
    (s.claimChecked p e).afterRecovered f = (s.afterRecovered f).claimChecked p e := by
  by_cases freed : s.claims[e] = some p ∧ s.holdsRecord p e = false
  · rw [show s.claimChecked p e = s.withClaim e none from if_pos freed,
      show (s.afterRecovered f).claimChecked p e = (s.afterRecovered f).withClaim e none from if_pos freed]
    rfl
  · rw [show s.claimChecked p e = s from if_neg freed,
      show (s.afterRecovered f).claimChecked p e = s.afterRecovered f from if_neg freed]

theorem opensRecord_afterRecovered (s : State) (p : Port) (h : Held) (e : EntryIndex) (c : Content) (v : BitVec 16) (u : Nat)
    (f : InFlight) : (s.opensRecord p h e c v u).afterRecovered f = (s.afterRecovered f).opensRecord p h e c v u := by
  unfold State.opensRecord
  dsimp only
  split <;> split <;> rfl

theorem raised_content (s : State) (r : CommitRecord) (rest : List CommitRecord) :
    (s.versionRaised r rest).entry r.entry = (s.entry r.entry).raised := withEntry_entry ..

theorem versionRaised_active (active : s.entry r.entry = .active c v u) :
    (s.versionRaised r rest).entry r.entry = .active c (v + 1) u
      ∧ (s.versionRaised r rest).left r.entry =
        ((s.recordFreed rest).claimChecked r.port r.entry).withEntry r.entry (.active c (v + 1) (u - 1)) := by
  have entry : (s.versionRaised r rest).entry r.entry = .active c (v + 1) u := by rw [raised_content, active]; rfl
  exact ⟨entry, (left_of_active entry).trans (withEntry_withEntry ..)⟩

theorem versionRaised_draining (draining : s.entry r.entry = .draining c v u x) :
    (s.versionRaised r rest).entry r.entry = .draining c (v + 1) u x
      ∧ (2 ≤ u → (s.versionRaised r rest).left r.entry =
        ((s.recordFreed rest).claimChecked r.port r.entry).withEntry r.entry (.draining c (v + 1) (u - 1) x))
      ∧ (u ≤ 1 → (s.versionRaised r rest).left r.entry = (s.recordFreed rest).installedAs r.entry x.installed
        ∧ leaveReports r.entry (s.entry r.entry).raised = [installReport r.entry x]) := by
  have entry : (s.versionRaised r rest).entry r.entry = .draining c (v + 1) u x := by rw [raised_content, draining]; rfl
  refine ⟨entry, fun more => (left_of_draining entry more).trans (withEntry_withEntry ..), fun last => ?_⟩
  obtain ⟨installed, report⟩ := left_of_last entry last
  refine ⟨installed.trans ?_, by rw [← raised_content]; exact report⟩
  exact (congrArg (State.withClaim · r.entry none) (withEntry_withEntry ..)).trans
    (claimChecked_installedAs (s.recordFreed rest) r.port r.entry x.installed)

theorem versionRaised_holds (q : Port) (g : Held → Bool) : (s.versionRaised r rest).holds q g = s.holds q g :=
  claimChecked_holds ..

/-- Where one access goes on at the end of a transfer, RECOVERED is recorded with what that leads to. -/
theorem finish_goesOn_recovered {w : Work} {p : Port} {h : Held} {t : State} (held : (w.s.ports.get p).state = .held h)
    (unasked : w.s.noFillAsked p = true) (marked : w.again.get p = true) (alone : w.again.get p.other = false)
    (leads : w.s.goesOn p h t) (reports : w.reports = recoveredReports f) : w.finish = (t.afterRecovered f).drivePins := by
  obtain ⟨x, state, same, finish⟩ := finish_goesOn held unasked marked alone leads
  rw [finish, close_recovered f (same.trans reports), state]

/-- Nobody waits for what a commit frees: its end marks whom its user's leaving marks. -/
theorem commitDone_quiet (head : s.queue = r :: rest) (none : s.nobodyHeld (fun h => h.cause != .memory) = true)
    (quiet : ∀ q, (s.versionRaised r rest).leaveMarks q r.entry = false) :
    (landed s f).commitDone.again = ⟨false, false⟩ := by
  rw [nobodyHeld_iff] at none
  refine (unmarked_iff _).mpr fun q => ?_
  rw [commitDone_again head, quiet, holds_mono (by simp +contextual) (none q), holds_mono (by simp +contextual) (none q),
    holds_mono (by simp +contextual) (none q)]
  simp

end Done

end Sys2Proof.Machine

namespace Sys2Proof.Proofs

open Sys2Proof Sys2Proof.Machine

theorem exec_of_commitSuccess {s : State} {f : InFlight} {q : Port} {g : EntryIndex} {mst : BitVec 2}
    (flying : s.mem.inFlight = some f) (commit : f.transfer.purpose = .commit q g) (writes : f.transfer.isRead = false)
    (low : mst.toNat ≤ 1) : exec (.memoryWriteAnswer ⟨true, mst⟩) s = .next (landed s f).commitDone.finish := by
  rw [exec_memoryWriteAnswer flying writes, takeAnswer_done low, Work.transferDone, commit]
  rfl

/-- Settles O36. The head is freed, the claim checked, the version raised and the user gone; then either nobody waited, or the
port's access that waited for the record goes on. -/
theorem commitSuccessRaisesVersion : Obligations.CommitSuccessRaisesVersion := by
  unfold Obligations.CommitSuccessRaisesVersion
  refine ⟨commitTransfer_isBurstOf, fun s f q g r rest c v u mst flying commit writes low head => ?_⟩
  rw [exec_of_commitSuccess flying commit writes low]
  intro e recovered next freed ended raised
  have endedEq : ended = (s.recordFreed rest).afterRecovered f := by
    simp only [ended, State.afterRecovered, recoveredReport, commit, Purpose.port, Purpose.entry?, Purpose.address?]
    split <;> rfl
  have state := commitDone_left (f := f) head
  have reports := commitDone_reports (f := f) head
  refine ⟨fun none => ⟨fun active => ?_, fun x draining more => ?_, fun x draining last quiet => ?_⟩, ?_⟩
  · obtain ⟨entry, left⟩ := versionRaised_active (rest := rest) active
    have keeps := keepsContent_of_active entry
    rw [← raised_content s r rest, leaveReports_of_keepsContent keeps, List.append_nil] at reports
    rw [Work.finish_quiet (commitDone_quiet head none (leaveMarks_of_keepsContent keeps)), close_recovered f reports, state, left]
    simp only [raised, endedEq, ← claimChecked_afterRecovered]
    rfl
  · obtain ⟨entry, left, -⟩ := versionRaised_draining (rest := rest) draining
    have keeps := keepsContent_of_draining entry more
    rw [← raised_content s r rest, leaveReports_of_keepsContent keeps, List.append_nil] at reports
    rw [Work.finish_quiet (commitDone_quiet head none (leaveMarks_of_keepsContent keeps)), close_recovered f reports, state,
      left more]
    simp only [endedEq, ← claimChecked_afterRecovered]
    rfl
  · obtain ⟨entry, -, installs⟩ := versionRaised_draining (rest := rest) draining
    obtain ⟨installed, report⟩ := installs last
    rw [report] at reports
    rw [installed] at state
    have marks : ∀ q, (s.versionRaised r rest).leaveMarks q r.entry = false := fun q => by
      rw [leaveMarks_last entry last, versionRaised_holds]
      exact (nobodyHeld_iff _).mp quiet q
    rw [Work.finish_quiet (commitDone_quiet head none marks)]
    refine ⟨fun once => ?_, fun more => ?_⟩
    · rw [recoveredReports, if_neg (Nat.not_le.mpr once)] at reports
      rw [Work.close_one reports, state]
      rfl
    · rw [recoveredReports, if_pos more] at reports
      have either := Work.close_two reports nofun
      simp only [state, recoveredReport, commit] at either
      exact ⟨_, rfl, either⟩
  · intro h y d w m active held why other waits found activeY
    obtain ⟨entry, left⟩ := versionRaised_active (rest := rest) active
    have keeps := keepsContent_of_active entry
    rw [← raised_content s r rest, leaveReports_of_keepsContent keeps, List.append_nil] at reports
    have raisedEq : raised = State.afterRecovered (((s.recordFreed rest).claimChecked r.port r.entry).withEntry r.entry
        (.active c (v + 1) (u - 1))) f := by
      simp only [raised, endedEq, ← claimChecked_afterRecovered]
      rfl
    rw [left] at state
    rw [raisedEq] at why found activeY ⊢
    have ports : (((s.recordFreed rest).claimChecked r.port r.entry).withEntry r.entry
        (.active c (v + 1) (u - 1))).ports = s.ports := claimChecked_ports ..
    have waiting : (((s.recordFreed rest).claimChecked r.port r.entry).withEntry r.entry
        (.active c (v + 1) (u - 1))).mem.waiting = s.mem.waiting := by
      change ((s.recordFreed rest).claimChecked r.port r.entry).mem.waiting = _
      rw [claimChecked_mem]
      rfl
    have queue : (((s.recordFreed rest).claimChecked r.port r.entry).withEntry r.entry
        (.active c (v + 1) (u - 1))).queue = rest := claimChecked_queue ..
    generalize ((s.recordFreed rest).claimChecked r.port r.entry).withEntry r.entry (.active c (v + 1) (u - 1)) = core at *
    have marks := commitDone_again (f := f) head
    simp only [leaveMarks_of_keepsContent keeps, Bool.or_false] at marks
    have marked : (landed s f).commitDone.again.get r.port = true := by
      rw [marks]
      rcases why with cause | ⟨cause, on, free⟩
      · simp [holds_of_held held, cause]
      · have last : (rest.any fun n => n.port == r.port && n.entry == r.entry) = false := by
          rw [← queue]
          exact free
        have waitsHere : (h.cause == .ownCommit && h.entry == some r.entry) = true := by simp [cause, on, e]
        simp [holds_of_held held, last, waitsHere]
    have alone : (landed s f).commitDone.again.get r.port.other = false := by
      rw [marks, holds_mono (by simp +contextual) other]
      simp [holds_mono (p := r.port.other) (f := fun h => h.cause == .claim && h.entry == some r.entry) (by simp +contextual)
        other]
    have self : core.withWaiting r.port .none = core := withWaiting_self (by rw [waiting]; exact waits)
    have goes : ∀ t, core.goesOn r.port h t → (landed s f).commitDone.finish = (t.afterRecovered f).drivePins := fun t leads =>
      finish_goesOn_recovered (by rw [state, ports]; exact held)
        (by rw [state]; exact noFillAsked_of_none (by rw [waiting]; exact waits)) marked alone (by rw [state]; exact leads) reports
    refine ⟨fun opens => ?_, fun opens => ?_, fun read bytes free through => ?_⟩
    · rw [goes _ (goesOn_installed found activeY (.inl ⟨opens, rfl⟩)), self]
      rfl
    · rw [goes _ (goesOn_installed found activeY (.inr ⟨opens, rfl⟩)), self, opensRecord_afterRecovered]
    · rw [goes _ (.inr ⟨y, d, w, m, found, activeY, .inr (.inr ⟨read, bytes, free, through, rfl⟩)⟩), self]
      rfl

end Sys2Proof.Proofs
end

section
/-! PROOFS. The table commands (R18 to R24, R139, R140, R142, R151): an entry put in place and the held access it concerns, what
the end of an event keeps of an entry, and the statements O52, O53, O54, O55. -/

namespace Sys2Proof.Machine

open Sys2Proof

/-! ## What the end of an event keeps of an entry -/

/-- Whatever users joining and leaving keep of an entry, classifications keep. -/
theorem entry_kept {K : Entry → Prop} (left : ∀ x, K x → K x.left) (joined : ∀ x, K x → K x.joined) (e : EntryIndex) :
    ClassifyKeeps (fun s => K (s.entry e)) fun _ s => K (s.entry e) := by
  have leaves : ∀ (s : State) (f : EntryIndex), K (s.entry e) → K ((s.left f).entry e) := fun s f held => by
    by_cases same : e = f
    · subst same
      rw [left_entry]
      exact left _ held
    · rwa [left_entry_ne s same]
  have joins : ∀ (s : State) (f : EntryIndex), K (s.entry e) → K ((s.withEntry f (s.entry f).joined).entry e) :=
    fun s f held => by
      by_cases same : e = f
      · subst same
        rw [withEntry_entry]
        exact joined _ held
      · rwa [withEntry_entry_ne s _ same]
  have dropSnapshot : ∀ (w : Work) (p : Port) (f : EntryIndex), K (w.s.entry e) → K ((w.dropSnapshot p f).s.entry e) :=
    fun w p f held => by
      cases on : w.s.snapshotOn p f with
      | none => rwa [Work.dropSnapshot_none on]
      | some x =>
        rw [dropSnapshot_s on]
        exact leaves _ f held
  have openSnapshot : ∀ (w : Work) (p : Port) (h : Held) (f : EntryIndex) (c : Content), K (w.s.entry e) →
      K ((w.openSnapshot p h f c).s.entry e) := fun w p h f c held => by
    rw [openSnapshot_s]
    exact joins (w.s.withSnaps p _) f held
  have openRecord : ∀ (w : Work) (p : Port) (f : EntryIndex) (c : Content), K (w.s.entry e) →
      K ((w.openRecord p f c).s.entry e) := fun w p f c held => by
    rw [openRecord_s, withClaim_entry]
    exact joins (w.s.withRecs p _) f held
  refine ⟨fun _ _ held => held, fun _ _ _ held _ => held, fun _ _ _ held _ => held, fun _ _ _ _ held => held, dropSnapshot,
    dropSnapshot, fun w p f held => ?_, fun w p h f c _ _ held _ _ _ => openSnapshot w p h f c held,
    fun w p h f c _ _ _ held _ _ => openSnapshot _ p h f c (dropSnapshot w p f held), fun _ _ _ held _ => held,
    fun w p f c _ _ held _ _ _ _ => openRecord w p f c held, fun w p f c _ _ _ held _ _ => openRecord _ p f c ?_,
    fun _ _ _ held _ => held, fun w p f bytes held _ => ?_⟩
  · cases on : w.s.recordOn p f with
    | none => rwa [Work.dropRecord_none on]
    | some r =>
      rw [dropRecord_s on]
      exact leaves _ f ((claimChecked_entry (w.s.withRecs p _) p f e).symm ▸ held)
  · rw [leave_s]
    exact leaves (w.s.withRecs p _) f held
  · rw [enqueue_s]
    split <;> exact held

theorem settle_entry {K : Entry → Prop} (left : ∀ x, K x → K x.left) (joined : ∀ x, K x → K x.joined) {e : EntryIndex}
    (w : Work) (held : K (w.s.entry e)) : K (w.finish.entry e) :=
  (entry_kept left joined e).settle Config.settleFuel w held

/-- An ACTIVE entry stays ACTIVE, with its content and version, until its event ends. -/
theorem finish_active {w : Work} {e : EntryIndex} {c : Content} {v : BitVec 16} {u : Nat} (active : w.s.entry e = .active c v u) :
    ∃ u, w.finish.entry e = .active c v u :=
  settle_entry (K := fun x => ∃ u, x = .active c v u) (by rintro _ ⟨u, rfl⟩; exact ⟨u - 1, rfl⟩)
    (by rintro _ ⟨u, rfl⟩; exact ⟨u + 1, rfl⟩) w ⟨u, active⟩

theorem finish_empty {w : Work} {e : EntryIndex} (empty : w.s.entry e = .empty) : w.finish.entry e = .empty :=
  settle_entry (K := fun x => x = .empty) (by rintro _ rfl; rfl) (by rintro _ rfl; rfl) w empty

theorem finish_link (w : Work) : w.finish.link = w.s.link :=
  (frame_settle Config.settleFuel w).link

/-! ## An entry put in place by a command (R20, R21, R24) -/

/-- The work of a command that puts entry `x` in place of entry `e`, reports included, with its answer in the slot. -/
def placed (s : State) (tag : Byte) (e : EntryIndex) (x : Entry) (reports : List Report) : Work :=
  { (s.begin.deselect.reseat e x) with
    s := (s.installedAs e x).withSlot tag .ok []
    reports := reports }

section Placed
variable {s t : State} {tag : Byte} {e : EntryIndex} {x : Entry} {reports : List Report} {p : Port} {h : Held}

theorem placed_again (q : Port) :
    (placed s tag e x reports).again.get q = s.holds q fun h => h.concerned e (s.entry e).content? x.content? := by
  refine (reseat_again s.begin.deselect q e x).trans ?_
  cases q <;> rfl

/-- It concerns nobody. -/
theorem placed_quiet (quiet : s.unconcerned e (s.entry e).content? x.content? = true) :
    (placed s tag e x reports).finish = (placed s tag e x reports).close :=
  Work.finish_quiet ((unmarked_iff _).mpr fun q => (placed_again q).trans ((nobodyHeld_iff _).mp quiet q))

section Concerned
variable (held : (s.ports.get p).state = .held h) (unasked : s.noFillAsked p = true)
  (concerned : h.concerned e (s.entry e).content? x.content? = true)
  (alone : s.holds p.other (fun g => g.concerned e (s.entry e).content? x.content?) = false)
  (leads : ((s.installedAs e x).withSlot tag .ok []).goesOn p h t)
include held unasked concerned alone leads

theorem placed_goesOn_nil : (placed s tag e x []).finish = t.drivePins :=
  finish_goesOn_nil (w := placed s tag e x []) held unasked ((placed_again p).trans ((holds_of_held held _).trans concerned))
    ((placed_again p.other).trans alone) leads rfl

theorem placed_goesOn_one {y : Report} : (placed s tag e x [y]).finish = State.drivePins { t with events := t.events.enter y } :=
  finish_goesOn_one (w := placed s tag e x [y]) held unasked ((placed_again p).trans ((holds_of_held held _).trans concerned))
    ((placed_again p.other).trans alone) leads rfl

end Concerned

theorem asksPlain_withWaiting (s : State) (p : Port) (h : Held) (entry : Option EntryIndex) :
    (s.withWaiting p none).asksPlain p h entry = s.asksPlain p h entry := by
  cases p <;> rfl

theorem opensSnapshot_withWaiting (s : State) (p : Port) (h : Held) (e : EntryIndex) (c : Content) (v : BitVec 16) (u : Nat) :
    (s.withWaiting p none).opensSnapshot p h e c v u = s.opensSnapshot p h e c v u := by
  cases p <;> rfl

theorem placed_entry : ((s.installedAs e x).withSlot tag .ok []).entry e = x := withEntry_entry s e x

end Placed

/-! ## The table commands by the state of their entry -/

section ByState
variable {w : Work} {e : EntryIndex} {c d : Content} {v : BitVec 16} {u : Nat} {r : Replacement} {k : PoisonCause}

theorem deleteContent_empty (empty : w.s.entry e = .empty) : w.deleteContent e = (w, .noEntry) := by
  simp [Work.deleteContent, empty]

theorem deleteContent_active (active : w.s.entry e = .active c v u) (users : 1 ≤ u) :
    w.deleteContent e = (w.setEntry e (.draining c v u .delete), .okDraining) := by
  simp [Work.deleteContent, active, Nat.one_le_iff_ne_zero.mp users]

theorem deleteContent_draining (draining : w.s.entry e = .draining c v u r) :
    w.deleteContent e = (w.setEntry e (.draining c v u .delete), .okDraining) := by
  simp [Work.deleteContent, draining]

theorem deleteContent_idle (idle : (∃ c v, w.s.entry e = .active c v 0) ∨ (∃ c v r k, w.s.entry e = .poisoned c v r k)) :
    w.deleteContent e = (w.reseat e .empty, .ok) := by
  rcases idle with ⟨c, v, active⟩ | ⟨c, v, r, k, poisoned⟩
  · simp [Work.deleteContent, active]
  · simp [Work.deleteContent, poisoned]

theorem clearPoison_unpoisoned (live : (∃ c v u, w.s.entry e = .active c v u) ∨ (∃ c v u r, w.s.entry e = .draining c v u r)) :
    w.clearPoison e = (w, .notPoisoned) := by
  rcases live with ⟨c, v, u, active⟩ | ⟨c, v, u, r, draining⟩
  · simp [Work.clearPoison, active]
  · simp [Work.clearPoison, draining]

theorem clearPoison_empty (empty : w.s.entry e = .empty) : w.clearPoison e = (w, .noEntry) := by
  simp [Work.clearPoison, empty]

theorem clearPoison_restores (poisoned : w.s.entry e = .poisoned c v none k) :
    w.clearPoison e = (w.reseat e (.active c v 0), .ok) := by
  simp [Work.clearPoison, poisoned]

theorem clearPoison_installs (poisoned : w.s.entry e = .poisoned c v (some r) k) :
    w.clearPoison e = (w.installReplacement e r, .ok) := by
  simp [Work.clearPoison, poisoned]

theorem editEntry_illegal (illegal : c.legal = false) : w.editEntry e c = (w, .badArg) := by simp [Work.editEntry, illegal]

theorem editEntry_overlaps (legal : c.legal = true) (overlaps : w.s.overlapsOther e c = true) :
    w.editEntry e c = (w, .overlap) := by
  simp [Work.editEntry, legal, overlaps]

theorem editEntry_apart (legal : c.legal = true) (apart : w.s.overlapsOther e c = false) :
    w.editEntry e c = w.writeContent e c := by
  simp [Work.editEntry, legal, apart]

theorem writeContent_active (active : w.s.entry e = .active c v u) (users : 1 ≤ u) :
    w.writeContent e d = (w.setEntry e (.draining c v u (.content d)), .okDraining) := by
  simp [Work.writeContent, active, Nat.one_le_iff_ne_zero.mp users]

theorem writeContent_draining (draining : w.s.entry e = .draining c v u r) :
    w.writeContent e d = (w.setEntry e (.draining c v u (.content d)), .okDraining) := by
  simp [Work.writeContent, draining]

/-- An entry without users takes the new content at once. -/
theorem writeContent_idle
    (idle : match w.s.entry e with
      | .empty => True
      | .active _ _ u => u = 0
      | .draining _ _ _ _ => False
      | .poisoned _ _ _ _ => True) : w.writeContent e d = (w.reseat e (.active d 0 0), .ok) := by
  unfold Work.writeContent
  split <;> simp_all

end ByState

/-! ## The rows of the table commands -/

section Rows
variable {s : State} {cmd : Command} {tag : Byte} {args : List Byte} {e : EntryIndex} {x : Entry}
  (takes : s.takesRequest = true) (len : args.length = argLength cmd)
include takes len

/-- A refusal, or an answer without effect. -/
theorem exec_answered {status : Status} (action : s.begin.deselect.takeCommand args cmd = (s.begin.deselect, status, [])) :
    exec (rowOf cmd tag args) s = .next (s.withSlot tag status []).drivePins := by
  rw [exec_rowOf, Proofs.releaseSelect_of_unchanged tag takes len action]

/-- An entry is only changed. -/
theorem exec_edited {status : Status}
    (action : s.begin.deselect.takeCommand args cmd = (s.begin.deselect.setEntry e x, status, [])) :
    exec (rowOf cmd tag args) s = .next ((s.withEntry e x).withSlot tag status []).drivePins := by
  rw [exec_rowOf, releaseSelect_quiet tag takes len action rfl rfl]
  rfl

/-- An entry is put in place. -/
theorem exec_placed (action : s.begin.deselect.takeCommand args cmd = (s.begin.deselect.reseat e x, .ok, [])) :
    exec (rowOf cmd tag args) s = .next (placed s tag e x []).finish := by
  rw [exec_rowOf, releaseSelect_taken tag takes len action]
  refine congrArg (fun w => Host.Outcome.next (Work.finish w)) (work_ext ?_ (Work.reseat_reports ..) rfl)
  simp only [Work.setLink, Work.reseat_s]
  rfl

/-- A replacement is installed. -/
theorem exec_installed {r : Replacement}
    (action : s.begin.deselect.takeCommand args cmd = (s.begin.deselect.installReplacement e r, .ok, [])) :
    exec (rowOf cmd tag args) s = .next (placed s tag e r.installed [installReport e r]).finish := by
  rw [exec_rowOf, releaseSelect_taken tag takes len action]
  refine congrArg (fun w => Host.Outcome.next (Work.finish w)) (work_ext ?_ (congrArg (· ++ _) (Work.reseat_reports ..)) rfl)
  simp only [Work.setLink, Work.installReplacement_s]
  rfl

end Rows

end Sys2Proof.Machine

namespace Sys2Proof.Proofs

open Sys2Proof Sys2Proof.Machine

/-- Settles O54. An entry without users is emptied at once, one with users waits for them. -/
theorem deleteEntryActsByEntryState : Obligations.DeleteEntryActsByEntryState := by
  unfold Obligations.DeleteEntryActsByEntryState
  intro s tag n takes
  refine ⟨fun high => ?_, fun e index => ?_⟩
  · exact exec_answered (cmd := .deleteEntry) (args := [n]) takes rfl
      (by simp [Work.takeCommand, Work.takeDeleteEntry, argByte, indexOf_of_le high])
  have action : s.begin.deselect.takeCommand [n] .deleteEntry = noResults (s.begin.deselect.deleteContent e) := by
    simp [Work.takeCommand, Work.takeDeleteEntry, argByte, index]
  have row : ∀ {w status}, s.begin.deselect.deleteContent e = (w, status) →
      s.begin.deselect.takeCommand [n] .deleteEntry = (w, status, []) := fun acts => by rw [action, acts]; rfl
  refine ⟨fun empty => ?_, fun c v u active users => ?_, fun c v u r draining => ?_, fun idle => ?_⟩
  · exact exec_answered (cmd := .deleteEntry) takes rfl (row (deleteContent_empty (w := s.begin.deselect) empty))
  · exact exec_edited (cmd := .deleteEntry) takes rfl (row (deleteContent_active (w := s.begin.deselect) active users))
  · exact exec_edited (cmd := .deleteEntry) takes rfl (row (deleteContent_draining (w := s.begin.deselect) draining))
  · have installs := exec_placed (cmd := .deleteEntry) (tag := tag) takes rfl
      (row (deleteContent_idle (w := s.begin.deselect) idle))
    change exec (.deleteEntry tag [n]) s = _ at installs
    rw [installs]
    refine ⟨⟨_, rfl, finish_empty (w := placed s tag e .empty []) placed_entry, finish_link _⟩, fun quiet => ?_,
      fun p h held unasked concerned alone unfound => ?_⟩
    · rw [placed_quiet quiet, Work.close_nil rfl]
      rfl
    · rw [placed_goesOn_nil held unasked concerned alone (.inl ⟨unfound, rfl⟩), asksPlain_withWaiting]

/-- Settles O55. A poisoned entry takes its content back, or its kept replacement, and a held access it concerns goes on. -/
theorem clearPoisonActsByEntryState : Obligations.ClearPoisonActsByEntryState := by
  unfold Obligations.ClearPoisonActsByEntryState
  intro s tag n takes
  refine ⟨fun high => ?_, fun e index => ?_⟩
  · exact exec_answered (cmd := .clearPoison) (args := [n]) takes rfl
      (by simp [Work.takeCommand, Work.takeClearPoison, argByte, indexOf_of_le high])
  have action : s.begin.deselect.takeCommand [n] .clearPoison = noResults (s.begin.deselect.clearPoison e) := by
    simp [Work.takeCommand, Work.takeClearPoison, argByte, index]
  have row : ∀ {w status}, s.begin.deselect.clearPoison e = (w, status) →
      s.begin.deselect.takeCommand [n] .clearPoison = (w, status, []) := fun acts => by rw [action, acts]; rfl
  have restores := fun {c v k} (poisoned : s.entry e = .poisoned c v none k) => exec_placed (cmd := .clearPoison) (tag := tag)
    takes rfl (row (clearPoison_restores (w := s.begin.deselect) poisoned))
  have installs := fun {c v r k} (poisoned : s.entry e = .poisoned c v (some r) k) => exec_installed (cmd := .clearPoison)
    (tag := tag) takes rfl (row (clearPoison_installs (w := s.begin.deselect) poisoned))
  have content : ∀ {c v r k}, s.entry e = .poisoned c v r k → (s.entry e).content? = some c := fun poisoned => by
    rw [poisoned]
    rfl
  refine ⟨fun empty => ?_, fun live => ?_, fun c v k poisoned quiet => ?_, fun c v r k poisoned quiet => ?_,
    fun c v q k p h poisoned held unasked => ?_⟩
  · exact exec_answered (cmd := .clearPoison) takes rfl (row (clearPoison_empty (w := s.begin.deselect) empty))
  · exact exec_answered (cmd := .clearPoison) takes rfl (row (clearPoison_unpoisoned (w := s.begin.deselect) live))
  · refine (restores poisoned).trans ?_
    rw [placed_quiet (by rw [content poisoned]; exact quiet), Work.close_nil rfl]
    rfl
  · refine (installs poisoned).trans ?_
    rw [placed_quiet (by rw [content poisoned, installed_content]; exact quiet), Work.close_one rfl]
    rfl
  · cases q with
    | none =>
      intro x after cleared noted concerned alone
      have goes : ∀ t, cleared.goesOn p h t → exec (.clearPoison tag [n]) s = .next t.drivePins := fun t leads =>
        (restores poisoned).trans (congrArg Host.Outcome.next (placed_goesOn_nil held unasked
          (by rw [content poisoned]; exact concerned) (by rw [content poisoned]; exact alone) leads))
      refine ⟨fun unfound => ?_, fun d w active found => ⟨fun opens => ?_, fun opens => ?_⟩⟩
      · rw [goes _ (.inl ⟨unfound, rfl⟩), asksPlain_withWaiting]
      · rw [goes _ (goesOn_installed found (placed_entry.trans active) (.inl ⟨opens, rfl⟩)), opensSnapshot_withWaiting]
      · rw [goes _ (goesOn_installed found (placed_entry.trans active) (.inr ⟨opens, rfl⟩))]
    | some r =>
      intro x after cleared noted concerned alone
      have goes : ∀ t, cleared.goesOn p h t → exec (.clearPoison tag [n]) s =
          .next (State.drivePins { t with events := t.events.enter (installReport e r) }) := fun t leads =>
        (installs poisoned).trans (congrArg Host.Outcome.next (placed_goesOn_one held unasked
          (by rw [content poisoned, installed_content]; exact concerned)
          (by rw [content poisoned, installed_content]; exact alone) leads))
      refine ⟨fun unfound => ?_, fun d w active found => ⟨fun opens => ?_, fun opens => ?_⟩⟩
      · rw [goes _ (.inl ⟨unfound, rfl⟩), asksPlain_withWaiting]
        rfl
      · rw [goes _ (goesOn_installed found (placed_entry.trans active) (.inl ⟨opens, rfl⟩)), opensSnapshot_withWaiting]
        rfl
      · rw [goes _ (goesOn_installed found (placed_entry.trans active) (.inr ⟨opens, rfl⟩)), opensRecord_enter]
        rfl

/-- Settles O53. The entry is put in place at version 0, and a held access it concerns goes on. -/
theorem writeEntryInstallsAtOnce : Obligations.WriteEntryInstallsAtOnce := by
  unfold Obligations.WriteEntryInstallsAtOnce
  intro s tag n image e c takes index length decodes legal apart idle
  have action : s.begin.deselect.takeCommand (n :: image) .writeEntry =
      (s.begin.deselect.reseat e (.active c 0 0), .ok, []) := by
    have edit : s.begin.deselect.editEntry e c = (s.begin.deselect.reseat e (.active c 0 0), .ok) := by
      rw [editEntry_apart (w := s.begin.deselect) legal apart, writeContent_idle (w := s.begin.deselect) idle]
    simp [Work.takeCommand, Work.takeWriteEntry, argByte, index, decodes, edit, noResults]
  have installs := exec_placed (cmd := .writeEntry) (tag := tag) takes (congrArg (· + 1) length) action
  change exec (.writeEntry tag (n :: image)) s = _ at installs
  rw [installs]
  refine ⟨⟨_, rfl, finish_active (w := placed s tag e (.active c 0 0) []) placed_entry, finish_link _⟩, fun quiet => ?_,
    fun p h held unasked concerned alone => ?_⟩
  · rw [placed_quiet quiet, Work.close_nil rfl]
    rfl
  · have goes := fun t => placed_goesOn_nil (t := t) (tag := tag) (e := e) (x := .active c 0 0) held unasked concerned alone
    refine ⟨fun unfound => ?_, fun found => ⟨fun opens => ?_, fun opens => ?_⟩⟩
    · rw [goes _ (.inl ⟨unfound, rfl⟩), asksPlain_withWaiting]
    · rw [goes _ (goesOn_installed found placed_entry (.inl ⟨opens, rfl⟩)), opensSnapshot_withWaiting]
    · rw [goes _ (goesOn_installed found placed_entry (.inr ⟨opens, rfl⟩))]

/-! ## What WRITE_ENTRY refuses (R18, R193) -/

theorem legal_iff (c : Content) :
    c.legal = true ↔
      c.base < 1048576 ∧ 2 ≤ c.length ∧ c.length ≤ 32 ∧ c.base + (c.length + 3) / 4 ≤ 1048576
        ∧ ¬(c.readPolicy = .through ∧ c.writePolicy = .through) ∧ ¬(c.claim = .exclusive ∧ c.writePolicy = .through)
        ∧ 1 ≤ c.snapshotLimit ∧ c.snapshotLimit ≤ 4095 ∧ 1 ≤ c.stagingLimit ∧ c.stagingLimit ≤ 4095 := by
  unfold Content.legal Content.extent Config.windowWords
  simp [and_assoc, imp_iff_not_or]

section Image
variable (b0 b1 b2 len four five n0 n1 g0 g1 : Byte)

/-- The bytes that decode, and the fields the checks of R18 look at. -/
theorem contentOf_cases :
    (contentOf [b0, b1, b2, len, four, five, n0, n1, g0, g1] = none
        ∧ (four.toNat % 4 = 3 ∨ 15 < four.toNat ∨ 15 < five.toNat))
      ∨ (four.toNat % 4 ≠ 3 ∧ four.toNat ≤ 15 ∧ five.toNat ≤ 15
        ∧ ∃ c, contentOf [b0, b1, b2, len, four, five, n0, n1, g0, g1] = some c
          ∧ c.base = b0.toNat + 256 * b1.toNat + 65536 * b2.toNat ∧ c.length = len.toNat
          ∧ c.snapshotLimit = n0.toNat + 256 * n1.toNat ∧ c.stagingLimit = g0.toNat + 256 * g1.toNat
          ∧ (c.readPolicy = .through ↔ five.getLsbD 0 = true) ∧ (c.writePolicy = .through ↔ five.getLsbD 1 = true)
          ∧ (c.claim = .exclusive ↔ five.getLsbD 2 = true)) := by
  unfold contentOf
  dsimp only
  split
  · next high => exact .inl ⟨rfl, by omega⟩
  · next low =>
    have order : Machine.orderOf (four.toNat % 4) = none ↔ four.toNat % 4 = 3 := by
      have small := Nat.mod_lt four.toNat (show 0 < 4 by decide)
      revert small
      generalize four.toNat % 4 = k
      intro small
      interval_cases k <;> decide
    split
    · next none => exact .inl ⟨rfl, .inl (order.mp none)⟩
    · next o some =>
      refine .inr ⟨fun three => by rw [order.mpr three] at some; contradiction, by omega, by omega, _, rfl,
        ?_, rfl, ?_, ?_, ?_, ?_, ?_⟩
      · simp only [leValue]; omega
      · simp only [leValue]; omega
      · simp only [leValue]; omega
      · split <;> simp_all
      · split <;> simp_all
      · split <;> simp_all

end Image

section WriteRow
variable {s : State} {tag n : Byte} {image : List Byte} {e : EntryIndex} {c : Content} (takes : s.takesRequest = true)
  (length : image.length = 10)
include takes length

/-- An index or an encoding that names nothing is refused. -/
theorem exec_writeEntry_undecoded (why : 63 < n.toNat ∨ contentOf image = none) :
    exec (.writeEntry tag (n :: image)) s = .next (s.withSlot tag .badArg []).drivePins := by
  refine exec_answered (cmd := .writeEntry) takes (congrArg (· + 1) length) ?_
  rcases why with high | undecoded
  · simp [Work.takeCommand, Work.takeWriteEntry, argByte, indexOf_of_le (show 64 ≤ n.toNat from high)]
  · simp only [Work.takeCommand, Work.takeWriteEntry, List.drop_one, List.tail_cons, undecoded]
    split
    · contradiction
    · rfl

end WriteRow

/-- The action of a row whose arguments decode. -/
theorem takeWriteEntry_decoded {s : State} {n : Byte} {image : List Byte} {e : EntryIndex} {c : Content}
    (length : image.length = 10) (index : n.toNat = e.val) (decodes : contentOf image = some c) {w : Work} {status : Status}
    (edits : s.begin.deselect.editEntry e c = (w, status)) :
    s.begin.deselect.takeCommand (n :: image) .writeEntry = (w, status, [])
      ∧ (n :: image).length = argLength .writeEntry := by
  refine ⟨?_, congrArg (· + 1) length⟩
  simp [Work.takeCommand, Work.takeWriteEntry, argByte, index, decodes, edits, noResults]

/-- Settles O52. The refusals are the checks of R18 on the decoded content; then the overlap, then the users. -/
theorem writeEntryRefusedOrWaits : Obligations.WriteEntryRefusedOrWaits := by
  unfold Obligations.WriteEntryRefusedOrWaits
  intro s tag n b0 b1 b2 len four five n0 n1 g0 g1 takes image base snapshotLimit stagingLimit badArg
  have fields := contentOf_cases b0 b1 b2 len four five n0 n1 g0 g1
  have legality : ∀ c, contentOf image = some c → ¬63 < n.toNat → (c.legal = true ↔ ¬badArg) := by
    intro c decodes low
    rcases fields with ⟨undecoded, -⟩ | ⟨o, f, v, d, same, hb, hl, hs, hg, hr, hw, hc⟩
    · exact nomatch undecoded.symm.trans decodes
    · cases same.symm.trans decodes
      rw [legal_iff, hb, hl, hs, hg, hr, hw, hc]
      simp only [badArg, base, snapshotLimit, stagingLimit]
      cases five.getLsbD 0 <;> cases five.getLsbD 1 <;> cases five.getLsbD 2 <;> simp <;> omega
  refine ⟨fun bad => ?_, fun good => ?_, fun e c index decodes good => ?_⟩
  · by_cases high : 63 < n.toNat
    · exact exec_writeEntry_undecoded takes rfl (.inl high)
    · cases decodes : contentOf image with
      | none => exact exec_writeEntry_undecoded takes rfl (.inr decodes)
      | some c =>
        have illegal : c.legal = false := Bool.eq_false_iff.mpr fun legal => (legality c decodes high).mp legal bad
        obtain ⟨action, args⟩ := takeWriteEntry_decoded (e := ⟨n.toNat, by have : Config.entries = 64 := rfl; omega⟩) rfl rfl
          decodes (editEntry_illegal (w := s.begin.deselect) illegal)
        exact exec_answered (cmd := .writeEntry) takes args action
  · have low : ¬63 < n.toNat := fun high => good (.inl high)
    rcases fields with ⟨-, unnamed⟩ | ⟨-, -, -, c, decodes, -⟩
    · rcases unnamed with h | h | h <;> exact absurd (by simp only [badArg, h, true_or, or_true]) good
    · exact ⟨c, decodes, (legality c decodes low).mpr good⟩
  · have legal := (legality c decodes fun high => good (.inl high)).mpr good
    refine ⟨fun overlaps => ?_, fun apart => ⟨fun old v u active users => ?_, fun old v u r draining => ?_⟩⟩
    · obtain ⟨action, args⟩ := takeWriteEntry_decoded rfl index decodes
        (editEntry_overlaps (w := s.begin.deselect) legal overlaps)
      exact exec_answered (cmd := .writeEntry) takes args action
    · obtain ⟨action, args⟩ := takeWriteEntry_decoded rfl index decodes
        ((editEntry_apart (w := s.begin.deselect) legal apart).trans
          (writeContent_active (w := s.begin.deselect) active users))
      exact exec_edited (cmd := .writeEntry) takes args action
    · obtain ⟨action, args⟩ := takeWriteEntry_decoded rfl index decodes
        ((editEntry_apart (w := s.begin.deselect) legal apart).trans
          (writeContent_draining (w := s.begin.deselect) draining))
      exact exec_edited (cmd := .writeEntry) takes args action

end Sys2Proof.Proofs
end

section
/-! PROOFS. The discard of all of a port's snapshots and OPEN records (R63, R91, R131, R135, R152): how often each entry is left,
what is reported and whom it marks; and the order in which the reports of an event enter. -/

namespace Sys2Proof.Machine

open Sys2Proof

/-! ## All reports of an event enter, in some order (R159) -/

theorem mem_of_mem_firstReports {r : Report} (rs : List Report) : ∀ seen, r ∈ firstReports seen rs → r ∈ rs := by
  induction rs with
  | nil => exact fun _ none => none
  | cons x xs ih =>
    intro seen among
    unfold firstReports at among
    split at among
    · exact List.mem_cons_of_mem x (ih _ among)
    · rcases List.mem_cons.mp among with rfl | later
      · exact List.mem_cons_self ..
      · exact List.mem_cons_of_mem x (ih _ later)

theorem draw_lt {n : Nat} (choices : Nat) (some : 0 < n) : (draw choices n).1 < n := by
  unfold draw
  split
  · exact some
  · exact Nat.mod_lt _ some

theorem enterReports_takesAll (n : Nat) : ∀ (choices : Nat) (rs : List Report) (q : EventQueue), rs.length = n →
    q.takesAll rs (enterReports n choices rs q).1 := by
  induction n with
  | zero =>
    intro choices rs q none
    rw [List.length_eq_zero_iff.mp none]
    exact ⟨[], .refl _, rfl⟩
  | succ n ih =>
    intro choices rs q length
    have first : 0 < (firstReports [] rs).length := by
      cases rs with
      | nil => contradiction
      | cons x xs => simp [firstReports]
    have chosen := List.getElem?_eq_getElem (draw_lt choices first)
    generalize (firstReports [] rs)[(draw choices (firstReports [] rs).length).1]'(draw_lt choices first) = r at chosen
    have among : r ∈ rs := mem_of_mem_firstReports rs [] (List.mem_of_getElem? chosen)
    obtain ⟨l, perm, entered⟩ := ih (draw choices (firstReports [] rs).length).2 (rs.erase r) (q.enter r)
      (by rw [List.length_erase_of_mem among, length]; rfl)
    refine ⟨r :: l, (perm.cons r).trans (List.perm_cons_erase among).symm, ?_⟩
    unfold enterReports
    rw [chosen]
    exact entered

theorem close_takesAll (w : Work) : w.s.events.takesAll w.reports w.close.events :=
  enterReports_takesAll _ _ _ _ rfl

theorem takesAll_of_perm {q t : EventQueue} {xs ys : List Report} (perm : xs.Perm ys) (takes : q.takesAll xs t) :
    q.takesAll ys t := by
  obtain ⟨l, order, entered⟩ := takes
  exact ⟨l, order.trans perm, entered⟩

theorem takesAll_one {q t : EventQueue} {x : Report} (takes : q.takesAll [x] t) : t = q.enter x := by
  obtain ⟨l, perm, rfl⟩ := takes
  rw [List.perm_singleton.mp perm]
  rfl

theorem takesAll_two {q t : EventQueue} {x y : Report} (takes : q.takesAll [x, y] t) :
    t = (q.enter x).enter y ∨ t = (q.enter y).enter x := by
  obtain ⟨l, perm, rfl⟩ := takes
  rcases List.perm_pair.mp perm with rfl | rfl
  · exact .inl rfl
  · exact .inr rfl

/-! ## Entries left again and again (R15, R22) -/

/-- So many leavings leave the content in place. -/
def Entry.spared (x : Entry) (n : Nat) : Prop := ∀ c v u r, x = .draining c v u r → n < u ∨ n = 0

theorem iterate_left_draining (c : Content) (v : BitVec 16) (u : Nat) (r : Replacement) {n : Nat} (fewer : n < u) :
    Entry.left^[n] (.draining c v u r) = .draining c v (u - n) r := by
  induction n with
  | zero => rfl
  | succ n ih =>
    rw [Function.iterate_succ_apply', ih (Nat.lt_of_succ_lt fewer), Entry.left, if_neg (by omega), Nat.sub_sub]

theorem iterate_left_active (c : Content) (v : BitVec 16) (u n : Nat) :
    Entry.left^[n] (.active c v u) = .active c v (u - n) := by
  induction n with
  | zero => rfl
  | succ n ih => rw [Function.iterate_succ_apply', ih, Entry.left, Nat.sub_sub]

theorem iterate_left_of_spared {x : Entry} {n : Nat} (spared : x.spared n) : Entry.left^[n] x = x.fewer n := by
  cases x with
  | active c v u => exact iterate_left_active c v u n
  | draining c v u r =>
    rcases spared c v u r rfl with fewer | rfl
    · exact iterate_left_draining c v u r fewer
    · rfl
  | empty => exact Function.iterate_fixed rfl n
  | poisoned c v r k => exact Function.iterate_fixed rfl n

theorem iterate_left_last {c : Content} {v : BitVec 16} {u : Nat} {r : Replacement} (users : 1 ≤ u) :
    Entry.left^[u] (.draining c v u r) = r.installed := by
  obtain ⟨n, rfl⟩ := Nat.exists_eq_add_of_le' users
  rw [Function.iterate_succ_apply', iterate_left_draining c v (n + 1) r (Nat.lt_succ_self n), Entry.left, if_pos (by omega)]

/-- An entry without a pending replacement is spared by any leavings. -/
theorem spared_of_undrained {x : Entry} (undrained : x.isDraining = false) (n : Nat) : x.spared n := by
  rintro c v u r rfl
  exact nomatch undrained

theorem spared_add {x : Entry} {n m : Nat} (spared : x.spared (n + m)) : x.spared n ∧ (Entry.left^[n] x).spared m := by
  have fewer : x.spared n := fun c v u r draining => (spared c v u r draining).imp (by omega) (by omega)
  refine ⟨fewer, ?_⟩
  rw [iterate_left_of_spared fewer]
  cases x with
  | draining c v u r =>
    have users := spared c v u r rfl
    intro _ _ k _ draining
    cases draining
    omega
  | active c v u => exact spared_of_undrained rfl m
  | empty => exact spared_of_undrained rfl m
  | poisoned c v r k => exact spared_of_undrained rfl m

/-! ## What discards leave of a state -/

/-- No access is held with cause CLAIM. -/
def State.claimless (s : State) : Prop := ∀ q, s.holds q (fun h => h.cause == .claim) = false

/-- From `w` to `y` the entries have been left, each as often as `n` says, and `reports` have been made besides the installs:
none where every entry is spared, one where all users of one DRAINING entry have left. -/
structure Leavings (w y : Work) (n : EntryIndex → Nat) (reports : List Report) : Prop where
  pools : y.s = { w.s with table := y.s.table, claims := y.s.claims, snaps := y.s.snaps, recs := y.s.recs }
  entry : ∀ e, y.s.entry e = Entry.left^[n e] (w.s.entry e)
  claims : ∀ e : EntryIndex, w.s.claims[e] = none → y.s.claims[e] = none
  quiet : w.s.claimless → (∀ e, (w.s.entry e).spared (n e)) →
    y.reports.Perm (w.reports ++ reports) ∧ ∀ q, y.again.get q = w.again.get q
  last : w.s.claimless → ∀ (e : EntryIndex) c v u r, w.s.entry e = .draining c v u r → n e = u → 1 ≤ u →
    (∀ f, f ≠ e → (w.s.entry f).spared (n f)) →
    y.reports.Perm (w.reports ++ reports ++ [installReport e r]) ∧ y.s.claims[e] = none
      ∧ ∀ q, y.again.get q = (w.again.get q || w.s.holds q fun h => h.concerned e (some c) r.content?)

section Leavings
variable {w y z : Work} {n m : EntryIndex → Nat} {xs ys : List Report} {p : Port} {e : EntryIndex}

theorem Leavings.ports (gone : Leavings w y n xs) : y.s.ports = w.s.ports := by rw [gone.pools]

theorem Leavings.mem (gone : Leavings w y n xs) : y.s.mem = w.s.mem := by rw [gone.pools]

theorem Leavings.queue (gone : Leavings w y n xs) : y.s.queue = w.s.queue := by rw [gone.pools]

theorem Leavings.holds (gone : Leavings w y n xs) (q : Port) (f : Held → Bool) : y.s.holds q f = w.s.holds q f := by
  unfold State.holds
  rw [gone.ports]

theorem Leavings.claimless (gone : Leavings w y n xs) (claimless : w.s.claimless) : y.s.claimless :=
  fun q => (gone.holds q _).trans (claimless q)

theorem Leavings.refl (w : Work) : Leavings w w (fun _ => 0) [] where
  pools := rfl
  entry _ := rfl
  claims _ none := none
  quiet _ _ := ⟨by simp, fun _ => rfl⟩
  last _ e c v u r _ all some _ := by omega

theorem Leavings.report (w : Work) (r : Report) : Leavings w (w.report r) (fun _ => 0) [r] where
  pools := rfl
  entry _ := rfl
  claims _ none := none
  quiet _ _ := ⟨.refl _, fun _ => rfl⟩
  last _ e c v u r _ all some _ := by omega

theorem Leavings.trans (first : Leavings w y n xs) (second : Leavings y z m ys) :
    Leavings w z (fun e => n e + m e) (xs ++ ys) where
  pools := by
    rw [second.pools, first.pools]
  entry e := by rw [second.entry, first.entry, Nat.add_comm, Function.iterate_add_apply]
  claims e none := second.claims e (first.claims e none)
  quiet claimless spared := by
    have parts := fun e => spared_add (spared e)
    obtain ⟨reports, again⟩ := first.quiet claimless fun e => (parts e).1
    obtain ⟨reports', again'⟩ := second.quiet (first.claimless claimless) fun e => by rw [first.entry]; exact (parts e).2
    refine ⟨reports'.trans ?_, fun q => (again' q).trans (again q)⟩
    rw [← List.append_assoc]
    exact reports.append_right ys
  last claimless e c v u r draining all some others := by
    have parts := fun f ne => spared_add (others f ne)
    have here := first.entry e
    by_cases gone : n e = u
    · rw [draining, gone, iterate_left_last some] at here
      obtain ⟨reports, free, again⟩ := first.last claimless e c v u r draining gone some fun f ne => (parts f ne).1
      obtain ⟨reports', again'⟩ := second.quiet (first.claimless claimless) fun f => by
        by_cases same : f = e
        · subst same
          exact fun _ _ _ _ _ => .inr (by omega)
        · rw [first.entry]
          exact (parts f same).2
      refine ⟨reports'.trans ((reports.append_right ys).trans ?_), second.claims e free, fun q => (again' q).trans (again q)⟩
      simpa using (List.perm_append_comm (l₁ := [installReport e r]) (l₂ := ys)).append_left (w.reports ++ xs)
    · rw [draining, iterate_left_draining c v u r (show n e < u by omega)] at here
      obtain ⟨reports, again⟩ := first.quiet claimless fun f => by
        by_cases same : f = e
        · subst same
          exact fun _ _ _ _ other => by
            cases draining.symm.trans other
            exact .inl (by omega)
        · exact (parts f same).1
      obtain ⟨reports', free, again'⟩ := second.last (first.claimless claimless) e c v (u - n e) r here (by omega) (by omega)
        fun f ne => by
        rw [first.entry]
        exact (parts f ne).2
      refine ⟨reports'.trans ?_, free, fun q => (again' q).trans ?_⟩
      · simpa using (reports.append_right (ys ++ [installReport e r]))
      · rw [again q, first.holds]

end Leavings

/-! ## One discard -/

section One
variable {s t : State} {w y : Work} {p : Port} {e : EntryIndex}

theorem leaveReports_of_spared {x : Entry} (spared : x.spared 1) : leaveReports e x = [] := by
  cases x with
  | draining c v u r =>
    have more : ¬u ≤ 1 := by have := spared c v u r rfl; omega
    simp only [leaveReports, if_neg more]
  | _ => rfl

theorem leaveMarks_of_spared (spared : (s.entry e).spared 1) (q : Port) : s.leaveMarks q e = false := by
  unfold State.leaveMarks
  split
  · next c v u r draining =>
    have more : ¬u ≤ 1 := by have := spared c v u r draining; omega
    rw [decide_eq_false more, Bool.false_and]
  · rfl

theorem holderLeft_none (x : Entry) : x.holderLeft none = none := by
  unfold Entry.holderLeft
  split
  · split <;> rfl
  · rfl

/-- A user leaves entry `e` of `w`, its snapshot or record gone. -/
theorem Leavings.one (state : y.s = t.left e)
    (gone : t = { w.s with claims := t.claims, snaps := t.snaps, recs := t.recs })
    (claims : ∀ f : EntryIndex, w.s.claims[f] = none → t.claims[f] = none)
    (reports : y.reports = w.reports ++ leaveReports e (w.s.entry e))
    (again : w.s.claimless → ∀ q, y.again.get q = (w.again.get q || w.s.leaveMarks q e)) :
    Leavings w y (fun f => if f = e then 1 else 0) [] where
  pools := by
    rw [state, gone]
    rfl
  entry f := by
    have same : t.entry f = w.s.entry f := by rw [gone]; rfl
    rw [state]
    by_cases here : f = e
    · subst here
      rw [if_pos rfl, left_entry, same]
      rfl
    · rw [if_neg here, left_entry_ne t here, same]
      rfl
  claims f none := by
    rw [state]
    by_cases here : f = e
    · subst here
      rw [left_claims, claims f none, holderLeft_none]
    · rw [left_claims_ne t here, claims f none]
  quiet claimless spared := by
    have one := spared e
    rw [if_pos rfl] at one
    rw [reports, leaveReports_of_spared one]
    exact ⟨.refl _, fun q => (again claimless q).trans (by rw [leaveMarks_of_spared one, Bool.or_false])⟩
  last claimless f c v u r draining all some others := by
    have here : f = e := by
      by_contra ne
      rw [if_neg ne] at all
      omega
    subst here
    rw [if_pos rfl] at all
    have last : u ≤ 1 := by omega
    have same : t.entry f = w.s.entry f := by rw [gone]; rfl
    obtain ⟨installed, report⟩ := left_of_last (t := t) (same.trans draining) last
    rw [same] at report
    refine ⟨?_, ?_, fun q => (again claimless q).trans (by rw [leaveMarks_last draining last])⟩
    · rw [reports, report, List.append_nil]
    · rw [state, installed]
      exact withClaim_claims _ f none

/-- The port's access is not HELD and waits for nothing. -/
structure State.cleared (s : State) (p : Port) : Prop where
  unheld : ∀ h, (s.ports.get p).state ≠ .held h
  unasked : s.mem.waiting.get p = none

theorem Leavings.cleared {n : EntryIndex → Nat} {xs : List Report} (gone : Leavings w y n xs) (clear : w.s.cleared p) :
    y.s.cleared p where
  unheld := by
    rw [gone.ports]
    exact clear.unheld
  unasked := by
    rw [gone.mem]
    exact clear.unasked

theorem dropSnapshot_leavings {x : Snapshot} (on : w.s.snapshotOn p e = some x) (clear : w.s.cleared p) :
    Leavings w (w.dropSnapshot p e) (fun f => if f = e then 1 else 0) []
      ∧ (w.dropSnapshot p e).s.snaps = w.s.snaps.set p ((w.s.snaps.get p).eraseP fun y => y.entry == e)
      ∧ (w.dropSnapshot p e).s.recs = w.s.recs := by
  have state := dropSnapshot_left on (noFillWaits_of_none clear.unasked)
  refine ⟨.one state rfl (fun _ none => none) (dropSnapshot_reports on) fun _ q => ?_, by rw [state]; rfl, by rw [state]; rfl⟩
  rw [dropSnapshot_again on]
  by_cases same : q = p
  · subst same
    rw [holds_of_unheld clear.unheld, Bool.and_false, Bool.or_false]
  · simp [same]

theorem claimChecked_claims_none {f : EntryIndex} (free : s.claims[f] = none) : (s.claimChecked p e).claims[f] = none := by
  unfold State.claimChecked
  split
  · by_cases here : f = e
    · subst here
      exact withClaim_claims s f _
    · rw [withClaim_claims_ne s _ here, free]
  · exact free

theorem dropRecord_leavings {x : OpenRecord} (on : w.s.recordOn p e = some x) (clear : w.s.cleared p) :
    Leavings w (w.dropRecord p e) (fun f => if f = e then 1 else 0) []
      ∧ (w.dropRecord p e).s.recs = w.s.recs.set p ((w.s.recs.get p).eraseP fun y => y.entry == e)
      ∧ (w.dropRecord p e).s.snaps = w.s.snaps := by
  have state := dropRecord_s on
  refine ⟨.one state ?_ (fun _ none => claimChecked_claims_none none) (dropRecord_reports on) fun claimless q => ?_,
    by rw [state, left_recs, claimChecked_recs]; rfl, by rw [state, left_snaps, claimChecked_snaps]; rfl⟩
  · rw [claimChecked_eq]
    rfl
  · have unclaimed : w.s.holds q (fun h => h.cause == .claim && h.entry == some e) = false :=
      holds_mono (by simp +contextual) (claimless q)
    rw [dropRecord_again on, unclaimed, Bool.and_false, Bool.or_false]
    by_cases same : q = p
    · subst same
      rw [holds_of_unheld clear.unheld, Bool.and_false, Bool.or_false]
    · simp [same]

end One

/-! ## All discards of a port (R63, R91, R131, R135) -/

section All
variable {w y : Work} {p : Port}

theorem countOn_cons {α : Type} (key : α → EntryIndex) (x : α) (l : List α) :
    countOn key (x :: l) = fun f => (if f = key x then 1 else 0) + countOn key l f := by
  funext f
  simp only [countOn, List.countP_cons, beq_iff_eq, eq_comm (a := f)]
  exact Nat.add_comm _ _

theorem dropSnapshots_cons {x : Snapshot} {xs : List Snapshot} (snaps : w.s.snaps.get p = x :: xs)
    (rest : (w.dropSnapshot p x.entry).s.snaps.get p = xs) :
    w.dropSnapshots p = (w.dropSnapshot p x.entry).dropSnapshots p := by
  unfold Work.dropSnapshots
  rw [snaps, rest]
  rfl

theorem dropRecords_cons {x : OpenRecord} {xs : List OpenRecord} (recs : w.s.recs.get p = x :: xs)
    (rest : (w.dropRecord p x.entry).s.recs.get p = xs) :
    w.dropRecords p = (w.dropRecord p x.entry).dropRecords p := by
  unfold Work.dropRecords
  rw [recs, rest]
  rfl

theorem dropSnapshots_leavings (xs : List Snapshot) : ∀ w : Work, w.s.snaps.get p = xs → w.s.cleared p →
    Leavings w (w.dropSnapshots p) (countOn Snapshot.entry xs) []
      ∧ (w.dropSnapshots p).s.snaps = w.s.snaps.set p [] ∧ (w.dropSnapshots p).s.recs = w.s.recs := by
  induction xs with
  | nil =>
    intro w snaps clear
    have same : w.dropSnapshots p = w := by rw [Work.dropSnapshots, snaps]; rfl
    rw [same, ← snaps, PerPort.set_get]
    exact ⟨snaps ▸ .refl w, rfl, rfl⟩
  | cons x xs ih =>
    intro w snaps clear
    have on : w.s.snapshotOn p x.entry = some x := by simp [State.snapshotOn, snaps]
    obtain ⟨first, left, recs⟩ := dropSnapshot_leavings on clear
    have rest : (w.dropSnapshot p x.entry).s.snaps.get p = xs := by simp [left, snaps]
    obtain ⟨later, left', recs'⟩ := ih _ rest (first.cleared clear)
    rw [dropSnapshots_cons snaps rest, countOn_cons, left', recs', left, PerPort.set_set]
    exact ⟨first.trans later, rfl, recs⟩

theorem dropRecords_leavings (xs : List OpenRecord) : ∀ w : Work, w.s.recs.get p = xs → w.s.cleared p →
    Leavings w (w.dropRecords p) (countOn OpenRecord.entry xs) []
      ∧ (w.dropRecords p).s.recs = w.s.recs.set p [] ∧ (w.dropRecords p).s.snaps = w.s.snaps := by
  induction xs with
  | nil =>
    intro w recs clear
    have same : w.dropRecords p = w := by rw [Work.dropRecords, recs]; rfl
    rw [same, ← recs, PerPort.set_get]
    exact ⟨recs ▸ .refl w, rfl, rfl⟩
  | cons x xs ih =>
    intro w recs clear
    have on : w.s.recordOn p x.entry = some x := by simp [State.recordOn, recs]
    obtain ⟨first, left, snaps⟩ := dropRecord_leavings on clear
    have rest : (w.dropRecord p x.entry).s.recs.get p = xs := by simp [left, recs]
    obtain ⟨later, left', snaps'⟩ := ih _ rest (first.cleared clear)
    rw [dropRecords_cons recs rest, countOn_cons, left', snaps', left, PerPort.set_set]
    exact ⟨first.trans later, rfl, snaps⟩

/-- The report of a port reset or a FLUSH (R132, R135). -/
def discardReport (s : State) (p : Port) (kind : EventKind) : Report :=
  { source := .port p, kind := kind, port := some p, entry := none, address := none, detail := some (s.discardCount p) }

/-- The discard of all of a port's snapshots and OPEN records. -/
theorem discardAll_leavings (kind : EventKind) (clear : w.s.cleared p) :
    Leavings w (w.discardAll p kind) (w.s.discardsOn p) [discardReport w.s p kind]
      ∧ (w.discardAll p kind).s.snaps = w.s.snaps.set p [] ∧ (w.discardAll p kind).s.recs = w.s.recs.set p [] := by
  have noted := Leavings.report w (discardReport w.s p kind)
  obtain ⟨first, snaps, recs⟩ := dropSnapshots_leavings _ (w.report (discardReport w.s p kind)) rfl (noted.cleared clear)
  obtain ⟨second, recs', snaps'⟩ := dropRecords_leavings _ _ rfl (first.cleared (noted.cleared clear))
  have all := (noted.trans first).trans second
  rw [recs] at all recs'
  rw [snaps] at snaps'
  have count : w.s.discardsOn p =
      fun e => 0 + countOn Snapshot.entry (w.s.snaps.get p) e + countOn OpenRecord.entry (w.s.recs.get p) e := by
    funext e
    rw [Nat.zero_add]
    rfl
  rw [count]
  exact ⟨all, snaps', recs'⟩

end All

end Sys2Proof.Machine
end

section
/-! PROOFS. A port reset and a FLUSH (R130 to R132, R135, R152): a port they have cleared stays cleared to the end of the event,
and what their install leads to at the other port: the statements O6 and O56. -/

namespace Sys2Proof.Machine

open Sys2Proof

/-! ## A cleared port stays cleared -/

/-- Port `p` is as `x` gives it, with no snapshot, OPEN record or waiting request, and no record of it has joined `q`. -/
structure AtRest (p : Port) (x : HostPort) (q : List CommitRecord) (s : State) : Prop where
  port : s.ports.get p = x
  snaps : s.snaps.get p = []
  recs : s.recs.get p = []
  waiting : s.mem.waiting.get p = none
  queue : ∃ l, s.queue = q ++ l ∧ ∀ r ∈ l, r.port ≠ p

section Rest
variable {p : Port} {x : HostPort} {q : List CommitRecord} {s t : State}

theorem AtRest.of_same (rest : AtRest p x q s) (ports : t.ports.get p = s.ports.get p) (snaps : t.snaps.get p = s.snaps.get p)
    (recs : t.recs.get p = s.recs.get p) (waiting : t.mem.waiting.get p = s.mem.waiting.get p) (queue : t.queue = s.queue) :
    AtRest p x q t where
  port := ports.trans rest.port
  snaps := snaps.trans rest.snaps
  recs := recs.trans rest.recs
  waiting := waiting.trans rest.waiting
  queue := queue ▸ rest.queue

theorem AtRest.snapshotOn_none (rest : AtRest p x q s) (e : EntryIndex) : s.snapshotOn p e = none := by
  simp [State.snapshotOn, rest.snaps]

theorem AtRest.recordOn_none (rest : AtRest p x q s) (e : EntryIndex) : s.recordOn p e = none := by
  simp [State.recordOn, rest.recs]

theorem AtRest.dropSnapshot {w : Work} (rest : AtRest p x q w.s) (o : Port) (e : EntryIndex) :
    AtRest p x q (w.dropSnapshot o e).s := by
  cases on : w.s.snapshotOn o e with
  | none =>
    rw [Work.dropSnapshot_none on]
    exact rest
  | some y =>
    have ne : p ≠ o := by
      rintro rfl
      rw [rest.snapshotOn_none] at on
      contradiction
    rw [dropSnapshot_s on]
    exact rest.of_same rfl (PerPort.get_set_ne _ _ _ _ ne) rfl (PerPort.get_set_ne _ _ _ _ ne) rfl

theorem AtRest.dropRecord {w : Work} (rest : AtRest p x q w.s) (o : Port) (e : EntryIndex) :
    AtRest p x q (w.dropRecord o e).s := by
  cases on : w.s.recordOn o e with
  | none =>
    rw [Work.dropRecord_none on]
    exact rest
  | some y =>
    have ne : p ≠ o := by
      rintro rfl
      rw [rest.recordOn_none] at on
      contradiction
    rw [dropRecord_s on]
    exact rest.of_same (by rw [left_ports, claimChecked_ports]; rfl) (by rw [left_snaps, claimChecked_snaps]; rfl)
      (by rw [left_recs, claimChecked_recs]; exact PerPort.get_set_ne _ _ _ _ ne) (by rw [left_mem, claimChecked_mem]; rfl)
      (by rw [left_queue, claimChecked_queue]; rfl)

theorem AtRest.openSnapshot {w : Work} {o : Port} (rest : AtRest p x q w.s) (ne : p ≠ o) (h : Held) (e : EntryIndex)
    (c : Content) : AtRest p x q (w.openSnapshot o h e c).s := by
  rw [openSnapshot_s]
  exact rest.of_same (PerPort.get_set_ne _ _ _ _ ne) (PerPort.get_set_ne _ _ _ _ ne) rfl (PerPort.get_set_ne _ _ _ _ ne) rfl

theorem AtRest.openRecord {w : Work} {o : Port} (rest : AtRest p x q w.s) (ne : p ≠ o) (e : EntryIndex) (c : Content) :
    AtRest p x q (w.openRecord o e c).s := by
  rw [openRecord_s]
  exact rest.of_same rfl rfl (PerPort.get_set_ne _ _ _ _ ne) rfl rfl

theorem AtRest.enqueue {w : Work} (rest : AtRest p x q w.s) {r : CommitRecord} (ne : r.port ≠ p) :
    AtRest p x q (w.enqueue r).s := by
  obtain ⟨l, queue, others⟩ := rest.queue
  rw [enqueue_s]
  split
  · next empty =>
    refine ⟨rest.port, rest.snaps, rest.recs, rest.waiting, [r], ?_, by simpa using ne⟩
    rw [empty] at queue
    rw [(List.append_eq_nil_iff.mp queue.symm).1]
    rfl
  · refine ⟨rest.port, rest.snaps, rest.recs, rest.waiting, l ++ [r], ?_, ?_⟩
    · rw [← List.append_assoc, ← queue]
    · simpa [or_imp, forall_and] using ⟨others, ne⟩

/-- The moves of a classification leave a port at rest whose access is not HELD. -/
theorem atRest_kept (unheld : ∀ h, x.state ≠ .held h) :
    ClassifyKeeps (AtRest p x q) fun o s => p ≠ o ∧ AtRest p x q s where
  choose _ _ rest := rest.of_same rfl rfl rfl rfl rfl
  vacate w o h rest held := by
    have ne : p ≠ o := by
      rintro rfl
      rw [rest.port] at held
      exact unheld h held
    exact ⟨ne, rest.of_same (PerPort.get_set_ne _ _ _ _ ne) rfl rfl (PerPort.get_set_ne _ _ _ _ ne) rfl⟩
  occupy _ _ _ free _ := free.2.of_same (PerPort.get_set_ne _ _ _ _ free.1) rfl rfl rfl rfl
  plain _ _ _ _ free :=
    free.2.of_same (PerPort.get_set_ne _ _ _ _ free.1) rfl rfl (PerPort.get_set_ne _ _ _ _ free.1) rfl
  dropSnapshot _ o e rest := rest.dropSnapshot o e
  dropSnapshotFree _ o e free := ⟨free.1, free.2.dropSnapshot o e⟩
  dropRecord _ o e rest := rest.dropRecord o e
  openSnapshot _ _ h e c _ _ free _ _ _ := free.2.openSnapshot free.1 h e c
  reopenSnapshot _ o h e c _ _ _ free _ _ := (free.2.dropSnapshot o e).openSnapshot free.1 h e c
  retouchSnaps w o f rest _ := by
    by_cases same : p = o
    · subst same
      refine rest.of_same rfl ((PerPort.get_set_same _ _ _).trans ?_) rfl rfl rfl
      rw [rest.snaps]
      rfl
    · exact rest.of_same rfl (PerPort.get_set_ne _ _ _ _ same) rfl rfl rfl
  openRecord _ _ e c _ _ free _ _ _ _ := ⟨free.1, free.2.openRecord free.1 e c⟩
  reopenRecord w o e c _ _ _ free _ _ := by
    refine ⟨free.1, AtRest.openRecord ?_ free.1 e c⟩
    rw [leave_s]
    exact free.2.of_same rfl rfl (PerPort.get_set_ne _ _ _ _ free.1) rfl rfl
  retouchRecs w o f rest _ := by
    by_cases same : p = o
    · subst same
      refine rest.of_same rfl rfl ((PerPort.get_set_same _ _ _).trans ?_) rfl rfl
      rw [rest.recs]
      rfl
    · exact rest.of_same rfl rfl (PerPort.get_set_ne _ _ _ _ same) rfl rfl
  enqueue w o e bytes rest record := by
    have ne : p ≠ o := by
      rintro rfl
      rw [rest.recs] at record
      simp at record
    exact AtRest.enqueue (w := w.setRecs o _) (rest.of_same rfl rfl (PerPort.get_set_ne _ _ _ _ ne) rfl rfl) (Ne.symm ne)

end Rest

/-! ## States that agree on a port and an entry lead to the same there -/

section Agree
variable {a b : State} {o : Port} {e : EntryIndex}

theorem State.agreesOn.refl (a : State) (o : Port) (e : EntryIndex) : a.agreesOn a o e :=
  ⟨rfl, rfl, rfl, rfl, rfl, rfl, rfl, rfl⟩

theorem agreesOn_withPort (agrees : a.agreesOn b o e) (x : PortState) : (a.withPort o x).agreesOn (b.withPort o x) o e := by
  obtain ⟨queue, commit, port, waiting, snaps, recs, entry, claim⟩ := agrees
  exact ⟨queue, commit, by simp [State.withPort, port], waiting, snaps, recs, entry, claim⟩

theorem agreesOn_withWaiting (agrees : a.agreesOn b o e) (x : Option Transfer) :
    (a.withWaiting o x).agreesOn (b.withWaiting o x) o e := by
  obtain ⟨queue, commit, port, waiting, snaps, recs, entry, claim⟩ := agrees
  exact ⟨queue, commit, port, by simp [State.withWaiting], snaps, recs, entry, claim⟩

theorem agreesOn_withSnaps (agrees : a.agreesOn b o e) (l : List Snapshot) :
    (a.withSnaps o l).agreesOn (b.withSnaps o l) o e := by
  obtain ⟨queue, commit, port, waiting, snaps, recs, entry, claim⟩ := agrees
  exact ⟨queue, commit, port, waiting, by simp [State.withSnaps], recs, entry, claim⟩

theorem agreesOn_withRecs (agrees : a.agreesOn b o e) (l : List OpenRecord) :
    (a.withRecs o l).agreesOn (b.withRecs o l) o e := by
  obtain ⟨queue, commit, port, waiting, snaps, recs, entry, claim⟩ := agrees
  exact ⟨queue, commit, port, waiting, snaps, by simp [State.withRecs], entry, claim⟩

theorem agreesOn_withEntry (agrees : a.agreesOn b o e) (x : Entry) : (a.withEntry e x).agreesOn (b.withEntry e x) o e := by
  obtain ⟨queue, commit, port, waiting, snaps, recs, entry, claim⟩ := agrees
  exact ⟨queue, commit, port, waiting, snaps, recs, by simp, claim⟩

theorem agreesOn_withClaim (agrees : a.agreesOn b o e) (x : Option Port) :
    (a.withClaim e x).agreesOn (b.withClaim e x) o e := by
  obtain ⟨queue, commit, port, waiting, snaps, recs, entry, claim⟩ := agrees
  exact ⟨queue, commit, port, waiting, snaps, recs, entry, by rw [withClaim_claims, withClaim_claims]⟩

theorem agreesOn_queued (agrees : a.agreesOn b o e) (r : CommitRecord) (c : Content) :
    (a.queued r c).agreesOn (b.queued r c) o e := by
  obtain ⟨queue, commit, port, waiting, snaps, recs, entry, claim⟩ := agrees
  unfold State.queued
  rw [queue]
  refine ⟨rfl, ?_, port, ?_, snaps, recs, entry, claim⟩
  · dsimp only
    split
    · rfl
    · exact commit
  · dsimp only
    split
    · exact waiting
    · exact waiting

theorem agreesOn_asksPlain (agrees : a.agreesOn b o e) (h : Held) (entry : Option EntryIndex) :
    (a.asksPlain o h entry).agreesOn (b.asksPlain o h entry) o e :=
  agreesOn_withWaiting (agreesOn_withPort agrees _) _

theorem agreesOn_opensSnapshot (agrees : a.agreesOn b o e) (h : Held) (c : Content) (v : BitVec 16) (u : Nat) :
    (a.opensSnapshot o h e c v u).agreesOn (b.opensSnapshot o h e c v u) o e := by
  have snaps : a.snaps.get o = b.snaps.get o := agrees.2.2.2.2.1
  unfold State.opensSnapshot
  rw [snaps]
  exact agreesOn_withWaiting (agreesOn_withEntry (agreesOn_withSnaps (agreesOn_withPort agrees _) _) _) _

theorem agreesOn_opensRecord (agrees : a.agreesOn b o e) (h : Held) (c : Content) (v : BitVec 16) (u : Nat) :
    (a.opensRecord o h e c v u).agreesOn (b.opensRecord o h e c v u) o e := by
  obtain ⟨-, -, -, -, -, recs, -⟩ := id agrees
  have answered := agreesOn_withEntry (agreesOn_withPort agrees (if h.released = true then .idle else writtenOk h.access))
    (.active c v (u + 1))
  have claimed := agreesOn_withClaim answered (some o)
  unfold State.opensRecord
  dsimp only
  rw [recs]
  by_cases exclusive : c.claim = .exclusive <;>
    by_cases full : c.written (enterBytes (List.replicate (4 * c.extent) none) c h.access) = true <;>
    simp only [exclusive, full, if_true, if_false, reduceCtorEq]
  · exact agreesOn_queued claimed _ _
  · exact agreesOn_withRecs claimed _
  · exact agreesOn_queued answered _ _
  · exact agreesOn_withRecs answered _

theorem readOpens_agrees (agrees : a.agreesOn b o e) (x : Access) (c : Content) : a.readOpens o x e c = b.readOpens o x e c := by
  obtain ⟨queue, commit, port, waiting, snaps, recs, entry, claim⟩ := agrees
  simp only [State.readOpens, State.ownsCommit, State.snapshotOn, queue, snaps]

theorem writeOpens_agrees (agrees : a.agreesOn b o e) (x : Access) (c : Content) : a.writeOpens o x e c = b.writeOpens o x e c := by
  obtain ⟨queue, commit, port, waiting, snaps, recs, entry, claim⟩ := agrees
  unfold State.writeOpens State.recordsInUse State.snapshotOn State.recordOn
  rw [queue, snaps, recs, claim]

theorem holds_agrees (agrees : a.agreesOn b o e) (f : Held → Bool) : a.holds o f = b.holds o f := by
  obtain ⟨queue, commit, port, waiting, snaps, recs, entry, claim⟩ := agrees
  simp only [State.holds, port]

theorem noFillAsked_agrees (agrees : a.agreesOn b o e) : a.noFillAsked o = b.noFillAsked o := by
  obtain ⟨queue, commit, port, waiting, snaps, recs, entry, claim⟩ := agrees
  simp only [State.noFillAsked, waiting]

end Agree

/-! ## What an install leads to -/

theorem goesOn_events {s t : State} {p : Port} {h : Held} (leads : s.goesOn p h t) : t.events = s.events := by
  rcases leads with ⟨-, rfl⟩ | ⟨e, c, v, u, -, -, ⟨-, rfl⟩ | ⟨-, rfl⟩ | ⟨-, -, -, -, rfl⟩⟩
  · rfl
  · rfl
  · unfold State.opensRecord State.queued
    dsimp only
    repeat' split
    all_goals rfl
  · rfl

section Install
variable {y : Work} {o : Port} {e : EntryIndex} {bare u : State} {c : Content} {r : Replacement}

/-- A held access that finds what an install has left in `bare` goes on likewise in a state that agrees with it. -/
theorem goesOn_agrees {a : State} {h : Held} (agrees : a.agreesOn bare o e)
    (contents : ∀ f, (a.entry f).content? = (bare.entry f).content?) (installed : bare.entry e = r.installed)
    (leads : (bare.lookup h.access.word = none ∧ u = (bare.withWaiting o none).asksPlain o h none)
      ∨ ∃ d, r = .content d ∧ bare.lookup h.access.word = some e
          ∧ ((bare.readOpens o h.access e d = true ∧ u = (bare.withWaiting o none).opensSnapshot o h e d 0 0)
            ∨ (bare.writeOpens o h.access e d = true ∧ u = (bare.withWaiting o none).opensRecord o h e d 0 0))) :
    ∃ t, a.goesOn o h t ∧ t.agreesOn u o e := by
  have found : a.lookup h.access.word = bare.lookup h.access.word := lookup_congr contents
  have vacated := agreesOn_withWaiting agrees none
  rcases leads with ⟨unfound, rfl⟩ | ⟨d, rfl, on, opens⟩
  · exact ⟨_, .inl ⟨found.trans unfound, rfl⟩, agreesOn_asksPlain vacated h none⟩
  · have active : a.entry e = .active d 0 0 := agrees.2.2.2.2.2.2.1.trans installed
    rcases opens with ⟨reads, rfl⟩ | ⟨writes, rfl⟩
    · exact ⟨_, goesOn_installed (found.trans on) active (.inl ⟨(readOpens_agrees agrees _ _).trans reads, rfl⟩),
        agreesOn_opensSnapshot vacated h d 0 0⟩
    · exact ⟨_, goesOn_installed (found.trans on) active (.inr ⟨(writeOpens_agrees agrees _ _).trans writes, rfl⟩),
        agreesOn_opensRecord vacated h d 0 0⟩

/-- The end of an event whose marks are those of an install, where the other port holds nothing. -/
theorem finish_installLeadsTo (agrees : y.s.agreesOn bare o e)
    (contents : ∀ f, (y.s.entry f).content? = (bare.entry f).content?) (installed : bare.entry e = r.installed)
    (again : ∀ q, y.again.get q = y.s.holds q fun h => h.concerned e (some c) r.content?)
    (unheld : ∀ h, (y.s.ports.get o.other).state ≠ .held h) (leads : bare.installLeadsTo o e c r u) :
    y.finish.agreesOn u o e ∧ y.s.events.takesAll y.reports y.finish.events := by
  have alone : y.again.get o.other = false := (again _).trans (holds_of_unheld unheld _)
  rcases leads with ⟨unconcerned, rfl⟩ | ⟨h, held, unasked, concerned, leads⟩
  · have quiet : y.again = ⟨false, false⟩ := by
      rw [unmarked_iff]
      intro q
      by_cases same : q = o
      · subst same
        exact (again q).trans ((holds_agrees agrees _).trans unconcerned)
      · exact eq_other_of_ne same ▸ alone
    rw [Work.finish_quiet quiet]
    exact ⟨agrees, close_takesAll y⟩
  · obtain ⟨t, goes, same⟩ := goesOn_agrees agrees contents installed leads
    have port : y.s.ports.get o = bare.ports.get o := agrees.2.2.1
    have here : (y.s.ports.get o).state = .held h := (congrArg HostPort.state port).trans held
    obtain ⟨x, rfl, reports, finish⟩ := finish_goesOn here ((noFillAsked_agrees agrees).trans unasked)
      ((again o).trans ((holds_of_held here _).trans concerned)) alone goes
    have takes := close_takesAll x
    rw [reports, goesOn_events goes] at takes
    rw [finish]
    exact ⟨same, takes⟩

end Install

/-! ## The end of an event: what it leaves alone -/

theorem enterReports_settings (n : Nat) : ∀ (choices : Nat) (rs : List Report) (q : EventQueue),
    (enterReports n choices rs q).1.threshold = q.threshold ∧ (enterReports n choices rs q).1.poisonAlert = q.poisonAlert := by
  induction n with
  | zero => exact fun _ _ _ => ⟨rfl, rfl⟩
  | succ n ih =>
    intro choices rs q
    unfold enterReports
    split
    · exact ⟨rfl, rfl⟩
    · next r _ =>
      obtain ⟨threshold, alert⟩ := ih _ _ (q.enter r)
      exact ⟨threshold.trans (enter_threshold q r).1, alert.trans (enter_threshold q r).2⟩

/-- What the end of an event leaves as it finds it. -/
structure Settings (s t : State) : Prop where
  link : t.link = s.link
  time : t.time = s.pastTick.time
  inFlight : t.mem.inFlight = s.mem.inFlight
  retryLimit : t.mem.retryLimit = s.mem.retryLimit
  lastGranted : t.mem.lastGranted = s.mem.lastGranted
  holdLimit : ∀ p, (t.ports.get p).holdLimit = (s.ports.get p).holdLimit
  threshold : t.events.threshold = s.events.threshold
  poisonAlert : t.events.poisonAlert = s.events.poisonAlert

theorem finish_settings (w : Work) : Settings w.s w.finish := by
  have same := frame_settle Config.settleFuel w
  obtain ⟨threshold, alert⟩ := enterReports_settings _ (settle Config.settleFuel w).s.choices
    (settle Config.settleFuel w).reports (settle Config.settleFuel w).s.events
  exact
    { link := same.link
      time := congrArg (fun x : TimeBase => { x with ticked := false }) same.time
      inFlight := same.inFlight
      retryLimit := same.retryLimit
      lastGranted := (congrArg MemoryPort.lastGranted same.mem).trans rfl
      holdLimit := same.holdLimit
      threshold := threshold.trans (congrArg EventQueue.threshold same.events)
      poisonAlert := alert.trans (congrArg EventQueue.poisonAlert same.events) }

/-! ## The end of an event in which a port's work has been discarded -/

theorem content_fewer (x : Entry) (n : Nat) : (x.fewer n).content? = x.content? := by cases x <;> rfl

section Ends
variable {s : State} {w y : Work} {n : EntryIndex → Nat} {xs : List Report} {p : Port}

/-- A port whose work has been discarded is at rest when the event ends. -/
theorem finish_atRest (gone : Leavings w y n xs) (clear : w.s.cleared p) (snaps : y.s.snaps.get p = [])
    (recs : y.s.recs.get p = []) : AtRest p (w.s.ports.get p) w.s.queue y.finish := by
  have rest : AtRest p (w.s.ports.get p) w.s.queue y.s :=
    ⟨congrArg (PerPort.get · p) gone.ports, snaps, recs,
      (congrArg (fun m : MemoryPort => m.waiting.get p) gone.mem).trans clear.unasked,
      [], by rw [gone.queue, List.append_nil], nofun⟩
  exact ((atRest_kept clear.unheld).settle Config.settleFuel y rest).of_same rfl rfl rfl rfl rfl

theorem Leavings.events (gone : Leavings w y n xs) : y.s.events = w.s.events := by rw [gone.pools]

/-- Where no discard installs anything, nobody is classified again. -/
theorem finish_spared (gone : Leavings w y n xs) (fresh : w.reports = []) (unmarked : w.again = ⟨false, false⟩)
    (claimless : w.s.claimless) (spared : ∀ e, (w.s.entry e).spared (n e)) :
    y.finish = y.close ∧ w.s.events.takesAll xs y.finish.events := by
  obtain ⟨reports, again⟩ := gone.quiet claimless spared
  have quiet : y.again = ⟨false, false⟩ := (unmarked_iff y).mpr fun q => (again q).trans ((unmarked_iff w).mp unmarked q)
  have takes := takesAll_of_perm reports (close_takesAll y)
  rw [fresh, List.nil_append, gone.events] at takes
  rw [Work.finish_quiet quiet]
  exact ⟨rfl, takes⟩

/-- Two states agree but for the ports of a list, what waits for them, the transfer in flight and the link. -/
structure OnlyPorts (s t : State) (ps : List Port) : Prop where
  table : t.table = s.table
  queue : t.queue = s.queue
  events : t.events = s.events
  commit : t.mem.waitingCommit = s.mem.waitingCommit
  port : ∀ o, o ∉ ps → t.ports.get o = s.ports.get o
  waiting : ∀ o, o ∉ ps → t.mem.waiting.get o = s.mem.waiting.get o

/-- The discard of all that the ports of a list hold in `s`, which takes `n` users from each entry and is reported as `xs`, in
the work `w` of an event that has begun with the clearing of the ports. -/
structure Discards (s : State) (w y : Work) (ps : List Port) (n : EntryIndex → Nat) (xs : List Report) : Prop where
  only : OnlyPorts s w.s ps
  clear : ∀ p ∈ ps, w.s.cleared p
  fresh : w.reports = []
  unmarked : w.again = ⟨false, false⟩
  gone : Leavings w y n xs
  snaps : ∀ o, y.s.snaps.get o = if o ∈ ps then [] else s.snaps.get o
  recs : ∀ o, y.s.recs.get o = if o ∈ ps then [] else s.recs.get o

section Discards
variable {ps : List Port} (discards : Discards s w y ps n xs)
include discards

theorem Discards.entry (e : EntryIndex) : w.s.entry e = s.entry e := by
  rw [State.entry, discards.only.table]
  rfl

theorem Discards.claimless (unclaimed : ∀ o, o ∉ ps → s.holds o (fun h => h.cause == .claim) = false) : w.s.claimless := by
  intro q
  by_cases named : q ∈ ps
  · exact holds_of_unheld (discards.clear q named).unheld _
  · rw [State.holds, discards.only.port q named]
    exact unclaimed q named

theorem Discards.atRest (named : p ∈ ps) : AtRest p (w.s.ports.get p) s.queue y.finish := by
  have rest := finish_atRest discards.gone (discards.clear p named) (by rw [discards.snaps, if_pos named])
    (by rw [discards.recs, if_pos named])
  rw [discards.only.queue] at rest
  exact rest

theorem Discards.settings : Settings w.s y.finish := by
  have settings := finish_settings y
  rw [discards.gone.pools] at settings
  exact ⟨settings.link, settings.time, settings.inFlight, settings.retryLimit, settings.lastGranted, settings.holdLimit,
    settings.threshold, settings.poisonAlert⟩

/-- Where no discard takes a DRAINING entry to no users, the ports not named stay as they are. -/
theorem Discards.finish_spared (unclaimed : ∀ o, o ∉ ps → s.holds o (fun h => h.cause == .claim) = false)
    (spared : ∀ e, (s.entry e).spared (n e)) :
    s.events.takesAll xs y.finish.events ∧ (∀ e, y.finish.entry e = (s.entry e).fewer (n e))
      ∧ (∀ o, o ∉ ps → y.finish.ports.get o = s.ports.get o ∧ y.finish.snaps.get o = s.snaps.get o
        ∧ y.finish.recs.get o = s.recs.get o)
      ∧ y.finish.queue = s.queue := by
  obtain ⟨quiet, takes⟩ := Machine.finish_spared discards.gone discards.fresh discards.unmarked (discards.claimless unclaimed)
    fun e => by rw [discards.entry]; exact spared e
  rw [discards.only.events] at takes
  rw [quiet] at takes ⊢
  refine ⟨takes, fun e => ?_, fun o unnamed => ⟨?_, ?_, ?_⟩, discards.gone.queue.trans discards.only.queue⟩
  · rw [← iterate_left_of_spared (spared e), ← discards.entry]
    exact discards.gone.entry e
  · exact (congrArg (PerPort.get · o) discards.gone.ports).trans (discards.only.port o unnamed)
  · exact (discards.snaps o).trans (if_neg unnamed)
  · exact (discards.recs o).trans (if_neg unnamed)

section Last
variable {e : EntryIndex} {c : Content} {v : BitVec 16} {u : Nat} {r : Replacement} {t : State}
  (unclaimed : ∀ o, o ∉ ps → s.holds o (fun h => h.cause == .claim) = false) (draining : s.entry e = .draining c v u r)
  (all : n e = u) (users : 1 ≤ u) (others : ∀ f, f ≠ e → (s.entry f).spared (n f))
include unclaimed draining all users others

/-- Where the discards take one DRAINING entry to no users, its replacement installs. -/
theorem Discards.installs :
    y.reports.Perm (xs ++ [installReport e r]) ∧ y.s.entry e = r.installed ∧ y.s.claims[e] = none
      ∧ ∀ q, y.again.get q = y.s.holds q fun h => h.concerned e (some c) r.content? := by
  have here : w.s.entry e = .draining c v u r := (discards.entry e).trans draining
  obtain ⟨reports, free, again⟩ := discards.gone.last (discards.claimless unclaimed) e c v u r here all users fun f ne => by
    rw [discards.entry]
    exact others f ne
  rw [discards.fresh] at reports
  refine ⟨reports, by rw [discards.gone.entry, here, all, iterate_left_last users], free, fun q => ?_⟩
  rw [again, (unmarked_iff w).mp discards.unmarked, Bool.false_or, discards.gone.holds]

/-- An access of the port not named that the install concerns goes on. -/
theorem Discards.finish_last {o : Port} (unnamed : o ∉ ps) (named : o.other ∈ ps)
    (leads : (((s.withSnaps o.other []).withRecs o.other []).installedAs e r.installed).installLeadsTo o e c r t) :
    y.finish.agreesOn t o e ∧ s.events.takesAll (xs ++ [installReport e r]) y.finish.events := by
  obtain ⟨reports, installed, free, again⟩ := discards.installs unclaimed draining all users others
  have apart : o ≠ o.other := (Port.other_ne o).symm
  have agrees : y.s.agreesOn (((s.withSnaps o.other []).withRecs o.other []).installedAs e r.installed) o e := by
    refine ⟨discards.gone.queue.trans discards.only.queue, ?_, ?_, ?_, ?_, ?_, ?_, ?_⟩
    · exact (congrArg MemoryPort.waitingCommit discards.gone.mem).trans discards.only.commit
    · exact (congrArg (PerPort.get · o) discards.gone.ports).trans (discards.only.port o unnamed)
    · exact (congrArg (fun m : MemoryPort => m.waiting.get o) discards.gone.mem).trans (discards.only.waiting o unnamed)
    · exact ((discards.snaps o).trans (if_neg unnamed)).trans (PerPort.get_set_ne _ _ _ _ apart).symm
    · exact ((discards.recs o).trans (if_neg unnamed)).trans (PerPort.get_set_ne _ _ _ _ apart).symm
    · exact installed.trans (withEntry_entry ((s.withSnaps o.other []).withRecs o.other []) e _).symm
    · exact free.trans (withClaim_claims (((s.withSnaps o.other []).withRecs o.other []).withEntry e r.installed) e _).symm
  have contents : ∀ f, (y.s.entry f).content? =
      ((((s.withSnaps o.other []).withRecs o.other []).installedAs e r.installed).entry f).content? := by
    intro f
    by_cases same : f = e
    · subst same
      exact congrArg Entry.content? agrees.2.2.2.2.2.2.1
    · rw [discards.gone.entry, discards.entry, iterate_left_of_spared (others f same), content_fewer]
      exact congrArg Entry.content? (withEntry_entry_ne ((s.withSnaps o.other []).withRecs o.other []) _ same).symm
  obtain ⟨same, takes⟩ := finish_installLeadsTo (c := c) agrees contents
    (withEntry_entry ((s.withSnaps o.other []).withRecs o.other []) e _) again
    (by rw [discards.gone.ports]; exact (discards.clear _ named).unheld) leads
  have entered := takesAll_of_perm reports takes
  rw [discards.gone.events, discards.only.events] at entered
  exact ⟨same, entered⟩

/-- With both ports named nobody is left whom the install concerns. -/
theorem Discards.finish_last_all (named : ∀ p, p ∈ ps) :
    y.finish.entry e = r.installed ∧ y.finish.claims[e] = none ∧ y.finish.queue = s.queue
      ∧ s.events.takesAll (xs ++ [installReport e r]) y.finish.events := by
  obtain ⟨reports, installed, free, again⟩ := discards.installs unclaimed draining all users others
  have quiet : y.again = ⟨false, false⟩ := (unmarked_iff y).mpr fun q => by
    rw [again, discards.gone.holds]
    exact holds_of_unheld (discards.clear q (named q)).unheld _
  have entered := takesAll_of_perm reports (close_takesAll y)
  rw [discards.gone.events, discards.only.events] at entered
  rw [Work.finish_quiet quiet]
  exact ⟨installed, free, discards.gone.queue.trans discards.only.queue, entered⟩

end Last

end Discards

end Ends

/-! ## PORT_RESET (R130 to R132) -/

/-- The work of a port reset before its discards. -/
def resetWork (s : State) (p : Port) : Work :=
  ((s.begin.setPort p (s.ports.get p).portReset).orphanTransfer p).setWaiting p none

/-- One port's part replaced, seen from any port. -/
theorem get_set_one {α : Type} (x : PerPort α) (p o : Port) (a : α) :
    (x.set p a).get o = if o ∈ [p] then a else x.get o := by
  by_cases same : o = p
  · subst same
    simp
  · simp [same, PerPort.get_set_ne]

section Reset
variable (s : State) (p : Port)

theorem resetWork_s :
    (resetWork s p).s =
      { s with
        ports := s.ports.set p (s.ports.get p).portReset
        mem :=
          { s.mem with
            waiting := s.mem.waiting.set p none
            inFlight := s.mem.inFlight.map fun f => if f.ofPort p = true then { f with orphan := true } else f } } := by
  unfold resetWork
  rw [orphanTransfer_eq]
  rfl

theorem resetWork_cleared : (resetWork s p).s.cleared p := by
  rw [resetWork_s]
  refine ⟨fun h held => ?_, PerPort.get_set_same ..⟩
  dsimp only at held
  rw [PerPort.get_set_same] at held
  exact nomatch held

theorem resetWork_quiet : (resetWork s p).reports = [] ∧ (resetWork s p).again = ⟨false, false⟩ := by
  unfold resetWork
  rw [orphanTransfer_eq]
  exact ⟨rfl, rfl⟩

theorem portReset_discards :
    Discards s (resetWork s p) ((resetWork s p).discardAll p .portReset) [p] (s.discardsOn p)
      [discardReport s p .portReset] := by
  obtain ⟨gone, snaps, recs⟩ := discardAll_leavings .portReset (resetWork_cleared s p)
  have only : OnlyPorts s (resetWork s p).s [p] := by
    rw [resetWork_s]
    exact ⟨rfl, rfl, rfl, rfl, fun o ne => PerPort.get_set_ne _ _ _ _ (by simpa using ne),
      fun o ne => PerPort.get_set_ne _ _ _ _ (by simpa using ne)⟩
  have same : (resetWork s p).s.discardsOn p = s.discardsOn p
      ∧ discardReport (resetWork s p).s p .portReset = discardReport s p .portReset
      ∧ (resetWork s p).s.snaps = s.snaps ∧ (resetWork s p).s.recs = s.recs := by
    rw [resetWork_s]
    exact ⟨rfl, rfl, rfl, rfl⟩
  obtain ⟨count, report, pools⟩ := same
  rw [count, report] at gone
  rw [pools.1] at snaps
  rw [pools.2] at recs
  refine ⟨only, by simpa using resetWork_cleared s p, (resetWork_quiet s p).1, (resetWork_quiet s p).2, gone, fun o => ?_,
    fun o => ?_⟩
  · rw [snaps, get_set_one]
  · rw [recs, get_set_one]

theorem unclaimed_others {s : State} {p : Port} {f : Held → Bool} (unclaimed : s.holds p.other f = false) (o : Port)
    (unnamed : o ∉ [p]) : s.holds o f = false :=
  eq_other_of_ne (List.mem_singleton.not.mp unnamed) ▸ unclaimed

theorem exec_portReset (high : (s.ports.get p).resetLow = false) (running : s.inReset = false) :
    exec (.portReset p) s = .next ((resetWork s p).discardAll p .portReset).finish := by
  change execPortReset p s = _
  unfold execPortReset
  rw [if_neg (by simp [high]), if_neg (by simp [running])]
  rfl

end Reset

end Sys2Proof.Machine

namespace Sys2Proof.Proofs

open Sys2Proof Sys2Proof.Machine

/-- Settles O6. The port is cleared before its work is discarded, so that only an install of the discards can concern the other
port. -/
theorem portResetDiscardsUnfinishedWork : Obligations.PortResetDiscardsUnfinishedWork := by
  unfold Obligations.PortResetDiscardsUnfinishedWork
  intro p s high running
  have discards := portReset_discards s p
  obtain ⟨port, snaps, recs, waiting, l, queue, others⟩ := discards.atRest (List.mem_singleton.mpr rfl)
  have settings := discards.settings
  refine ⟨_, exec_portReset s p high running, port.trans ?_, snaps, recs, waiting, ⟨l, queue, fun r among => ?_⟩,
    settings.link.trans ?_,
    settings.time.trans ?_, settings.retryLimit.trans ?_, settings.lastGranted.trans ?_, (settings.holdLimit _).trans ?_,
    settings.threshold.trans ?_, settings.poisonAlert.trans ?_, settings.inFlight.trans ?_, fun unclaimed => ⟨fun spared => ?_,
      fun e c v u r draining all some apart => ?_⟩⟩
  · rw [resetWork_s]
    exact PerPort.get_set_same ..
  · exact eq_other_of_ne (others r among)
  · rw [resetWork_s]
  · rw [resetWork_s]
    rfl
  · rw [resetWork_s]
  · rw [resetWork_s]
  · rw [discards.only.port _ (by simp)]
  · rw [resetWork_s]
  · rw [resetWork_s]
  · rw [resetWork_s]
    simp only [InFlight.ofPort, beq_iff_eq]
  · obtain ⟨takes, entries, kept, queue⟩ := discards.finish_spared (unclaimed_others unclaimed) spared
    have entered := takesAll_one takes
    obtain ⟨port, snaps, recs⟩ := kept p.other (by simp)
    exact ⟨entered, entries, port, snaps, recs, queue⟩
  · intro install bare t leads
    obtain ⟨agrees, takes⟩ := discards.finish_last (o := p.other) (unclaimed_others unclaimed) draining all some apart (by simp)
      (by simp) (by rw [Port.other_other]; exact leads)
    have either := takesAll_two takes
    exact ⟨agrees, either⟩

end Sys2Proof.Proofs
end

section
/-! PROOFS. FLUSH (R135, R136, R184): every named port's access is ended first, and then each one's work is discarded: the
statement O56. -/

namespace Sys2Proof.Machine

open Sys2Proof

/-! ## The named ports' accesses end -/

theorem portChoice_cases {n : Nat} {ps : List Port} (chosen : portChoice n = some ps) :
    ps = [.a] ∨ ps = [.b] ∨ ps = [.a, .b] := by
  unfold portChoice at chosen
  split at chosen <;> cases chosen <;> simp

theorem portChoice_none {n : Nat} (out : n < 1 ∨ 3 < n) : portChoice n = none := by
  unfold portChoice
  split
  · omega
  · omega
  · omega
  · rfl

/-- A FLUSH's work before its discards, and the slot as it leaves it. -/
def flushWork (s : State) (tag : Byte) (ps : List Port) : Work :=
  (ps.foldl Work.flushAccess s.begin.deselect).setLink (s.withSlot tag .ok []).link

/-- A host port whose access a FLUSH has ended. -/
def HostPort.flushed (x : HostPort) : HostPort := { x with state := x.state.flushed }

section Flush
variable {s : State} {tag : Byte} {ps : List Port} {n : Nat} (chosen : portChoice n = some ps)
include chosen

theorem flushWork_s :
    (flushWork s tag ps).s =
      { s.withSlot tag .ok [] with
        ports := (flushWork s tag ps).s.ports
        mem := { s.mem with waiting := (flushWork s tag ps).s.mem.waiting } } := by
  rcases portChoice_cases chosen with rfl | rfl | rfl <;> rfl

theorem flushWork_quiet : (flushWork s tag ps).reports = [] ∧ (flushWork s tag ps).again = ⟨false, false⟩ := by
  rcases portChoice_cases chosen with rfl | rfl | rfl <;> exact ⟨rfl, rfl⟩

theorem flushWork_port (o : Port) :
    (flushWork s tag ps).s.ports.get o = (if o ∈ ps then (s.ports.get o).flushed else s.ports.get o)
      ∧ (flushWork s tag ps).s.mem.waiting.get o = (if o ∈ ps then none else s.mem.waiting.get o) := by
  rcases portChoice_cases chosen with rfl | rfl | rfl <;> cases o <;> exact ⟨rfl, rfl⟩

end Flush

/-- No access is HELD after a FLUSH of its port. -/
theorem flushed_unheld (x : PortState) (h : Held) : x.flushed ≠ .held h := by
  cases x with
  | held g =>
    dsimp only [PortState.flushed, answeredState]
    split <;> exact nofun
  | _ => exact nofun

theorem flushed_eq (x : PortState) :
    x.flushed =
      match x with
      | .held h => if h.released = true then .idle else refusedWith h.access
      | .inTransfer r => .inTransfer { r with flushed := true }
      | x => x := by
  cases x <;> rfl

/-! ## The discards of several ports -/

/-- What one port after the other loses. -/
theorem discardEach_leavings (kind : EventKind) (s : State) (ps : List Port) : ∀ w : Work, ps.Nodup →
    (∀ p ∈ ps, w.s.cleared p ∧ w.s.snaps.get p = s.snaps.get p ∧ w.s.recs.get p = s.recs.get p) →
      Leavings w (ps.foldl (fun w p => w.discardAll p kind) w) (fun e => (ps.map fun p => s.discardsOn p e).sum)
          (ps.map fun p => discardReport s p kind)
        ∧ (∀ o, (ps.foldl (fun w p => w.discardAll p kind) w).s.snaps.get o = if o ∈ ps then [] else w.s.snaps.get o)
        ∧ ∀ o, (ps.foldl (fun w p => w.discardAll p kind) w).s.recs.get o = if o ∈ ps then [] else w.s.recs.get o := by
  induction ps with
  | nil => exact fun w _ _ => ⟨.refl w, fun _ => rfl, fun _ => rfl⟩
  | cons p ps ih =>
    intro w distinct each
    obtain ⟨apart, distinct⟩ := List.nodup_cons.mp distinct
    obtain ⟨clear, snaps, recs⟩ := each p (List.mem_cons_self ..)
    obtain ⟨first, snapsLeft, recsLeft⟩ := discardAll_leavings kind clear
    have count : w.s.discardsOn p = s.discardsOn p := by
      funext e
      simp only [State.discardsOn, State.snapshotCount, State.openCount, snaps, recs]
    have report : discardReport w.s p kind = discardReport s p kind := by
      simp only [discardReport, State.discardCount, snaps, recs]
    rw [count, report] at first
    obtain ⟨rest, snapsRest, recsRest⟩ := ih (w.discardAll p kind) distinct fun o among => by
      obtain ⟨clear, snaps, recs⟩ := each o (List.mem_cons_of_mem p among)
      have ne : o ≠ p := by
        rintro rfl
        exact apart among
      rw [snapsLeft, recsLeft, PerPort.get_set_ne _ _ _ _ ne, PerPort.get_set_ne _ _ _ _ ne]
      exact ⟨first.cleared clear, snaps, recs⟩
    refine ⟨by simpa using first.trans rest, fun o => (snapsRest o).trans ?_, fun o => (recsRest o).trans ?_⟩
    · rw [snapsLeft, get_set_one]
      simp only [List.mem_cons, List.not_mem_nil, or_false]
      split <;> split <;> simp_all
    · rw [recsLeft, get_set_one]
      simp only [List.mem_cons, List.not_mem_nil, or_false]
      split <;> split <;> simp_all

theorem Leavings.setLink {w y : Work} {n : EntryIndex → Nat} {xs : List Report} (gone : Leavings w y n xs) (l : Link) :
    Leavings (w.setLink l) (y.setLink l) n xs where
  pools := congrArg (fun s : State => { s with link := l }) gone.pools
  entry := gone.entry
  claims := gone.claims
  quiet := gone.quiet
  last := gone.last

/-! ## The row -/

section Row
variable {s : State} {tag q : Byte} {ps : List Port} (chosen : portChoice q.toNat = some ps)
include chosen

/-- The work of a FLUSH at the end of its discards. -/
theorem exec_flush (takes : s.takesRequest = true) :
    ∃ y, exec (.flush tag [q]) s = .next y.finish
      ∧ Discards s (flushWork s tag ps) y ps (fun e => (ps.map fun p => s.discardsOn p e).sum)
        (ps.map fun p => discardReport s p .flushed) := by
  have action : s.begin.deselect.takeCommand [q] .flush = (s.begin.deselect.flushPorts ps, .ok, []) := by
    simp [Work.takeCommand, Work.takeFlush, argByte, chosen]
  have port := flushWork_port (s := s) (tag := tag) chosen
  have state := flushWork_s (s := s) (tag := tag) chosen
  have distinct : ps.Nodup := by rcases portChoice_cases chosen with rfl | rfl | rfl <;> decide
  have clear : ∀ p ∈ ps, (flushWork s tag ps).s.cleared p := fun p named =>
    ⟨fun h => by rw [(port p).1, if_pos named]; exact flushed_unheld _ h, by rw [(port p).2, if_pos named]⟩
  have pools : (ps.foldl Work.flushAccess s.begin.deselect).s.snaps = s.snaps
      ∧ (ps.foldl Work.flushAccess s.begin.deselect).s.recs = s.recs :=
    ⟨(congrArg State.snaps state).trans rfl, (congrArg State.recs state).trans rfl⟩
  obtain ⟨gone, snaps, recs⟩ := discardEach_leavings .flushed s ps (ps.foldl Work.flushAccess s.begin.deselect) distinct
    fun p named => ⟨⟨(clear p named).unheld, (clear p named).unasked⟩, by rw [pools.1], by rw [pools.2]⟩
  have row := exec_rowOf .flush tag [q] s
  rw [releaseSelect_taken tag takes rfl action] at row
  refine ⟨(s.begin.deselect.flushPorts ps).setLink (s.withSlot tag .ok []).link, row.trans ?_, ?_⟩
  · refine congrArg (fun l => Host.Outcome.next (Work.setLink _ l).finish) ?_
    have link : (s.begin.deselect.flushPorts ps).s.link = s.begin.deselect.s.link := by
      refine (congrArg State.link gone.pools).trans ?_
      rcases portChoice_cases chosen with rfl | rfl | rfl <;> rfl
    rw [link]
    rfl
  · exact
      { only :=
          { table := (congrArg State.table state).trans rfl
            queue := (congrArg State.queue state).trans rfl
            events := (congrArg State.events state).trans rfl
            commit := (congrArg (fun s : State => s.mem.waitingCommit) state).trans rfl
            port := fun o unnamed => by rw [(port o).1, if_neg unnamed]
            waiting := fun o unnamed => by rw [(port o).2, if_neg unnamed] }
        clear := clear
        fresh := (flushWork_quiet chosen).1
        unmarked := (flushWork_quiet chosen).2
        gone := gone.setLink _
        snaps := fun o => (snaps o).trans (by rw [pools.1])
        recs := fun o => (recs o).trans (by rw [pools.2]) }

/-- What a FLUSH leaves as it is. -/
theorem flush_settings {t : State} (settings : Settings (flushWork s tag ps).s t) : Settings (s.withSlot tag .ok []) t := by
  have state := flushWork_s (s := s) (tag := tag) chosen
  have holdLimit : ∀ p, ((flushWork s tag ps).s.ports.get p).holdLimit = (s.ports.get p).holdLimit := fun p => by
    rw [(flushWork_port chosen p).1]
    split <;> rfl
  generalize (flushWork s tag ps).s = f at *
  rw [state] at settings
  exact ⟨settings.link, settings.time, settings.inFlight, settings.retryLimit, settings.lastGranted,
    fun p => (settings.holdLimit p).trans (holdLimit p), settings.threshold, settings.poisonAlert⟩

end Row

/-- The reports of an event enter the same without their sources (R157). -/
theorem takesAll_unsourced {q t : EventQueue} {xs : List Report} (takes : q.takesAll xs t) :
    q.takesAll (xs.map fun x => { x with source := .link }) t := by
  obtain ⟨l, perm, rfl⟩ := takes
  refine ⟨l.map fun x => { x with source := .link }, perm.map _, ?_⟩
  rw [List.foldl_map]
  rfl

end Sys2Proof.Machine

namespace Sys2Proof.Proofs

open Sys2Proof Sys2Proof.Machine

/-- Settles O56. The named ports are cleared before their work is discarded, so that only an install of the discards can concern a
port not named. -/
theorem flushEndsAccessesAndDiscards : Obligations.FlushEndsAccessesAndDiscards := by
  unfold Obligations.FlushEndsAccessesAndDiscards
  intro s tag q takes named flushed
  refine ⟨fun none => ?_, fun low high => ?_⟩
  · have unnamed := portChoice_none none
    exact exec_answered (cmd := .flush) (args := [q]) takes rfl
      (by simp [Work.takeCommand, Work.takeFlush, argByte, unnamed])
  obtain ⟨ps, chosen, members, reports, counts⟩ : ∃ ps, portChoice q.toNat = some ps ∧ (∀ p, named p ↔ p ∈ ps)
      ∧ (if q.toNat = 2 then [] else [flushed .a]) ++ (if q.toNat = 1 then [] else [flushed .b])
        = (ps.map fun p => discardReport s p .flushed).map (fun x => { x with source := .link })
      ∧ ∀ e, (if q.toNat = 2 then 0 else s.discardsOn .a e) + (if q.toNat = 1 then 0 else s.discardsOn .b e)
        = (ps.map fun p => s.discardsOn p e).sum := by
    have value : q.toNat = 1 ∨ q.toNat = 2 ∨ q.toNat = 3 := by omega
    rcases value with one | two | three
    · refine ⟨[.a], by rw [one]; rfl, fun p => ?_, by rw [one]; rfl, fun e => by rw [one]; rfl⟩
      cases p <;> simp [named, one]
    · refine ⟨[.b], by rw [two]; rfl, fun p => ?_, by rw [two]; rfl, fun e => ?_⟩
      · cases p <;> simp [named, two]
      · simp [two]
    · refine ⟨[.a, .b], by rw [three]; rfl, fun p => ?_, by rw [three]; rfl, fun e => ?_⟩
      · cases p <;> simp [named, three]
      · simp [three]
  obtain ⟨y, row, discards⟩ := exec_flush (tag := tag) chosen takes
  have settings := flush_settings chosen discards.settings
  refine ⟨_, row, settings.link, settings.inFlight, settings.retryLimit, settings.time, settings.threshold, settings.poisonAlert,
    settings.holdLimit, ?_, fun p flush => ?_, fun unclaimed => ?_⟩
  · obtain ⟨p, among⟩ : ∃ p, p ∈ ps := by rcases portChoice_cases chosen with rfl | rfl | rfl <;> simp
    obtain ⟨l, queue, -⟩ := (discards.atRest among).queue
    exact ⟨l, queue⟩
  · have among := (members p).mp flush
    obtain ⟨port, snaps, recs, waiting, -⟩ := discards.atRest among
    refine ⟨snaps, recs, waiting, port.trans ?_⟩
    rw [(flushWork_port chosen p).1, if_pos among]
    exact congrArg (fun x => { s.ports.get p with state := x }) (flushed_eq (s.ports.get p).state)
  · intro both discarded spared
    have claimless : ∀ o, o ∉ ps → s.holds o (fun h => h.cause == .claim) = false :=
      fun o apart => unclaimed o fun flush => apart ((members o).mp flush)
    have counted : ∀ e, discarded e = (ps.map fun p => s.discardsOn p e).sum := counts
    have kept : ∀ e, spared e → (s.entry e).spared (ps.map fun p => s.discardsOn p e).sum := fun e fewer => counted e ▸ fewer
    have noted : both = _ := reports
    refine ⟨fun all => ?_, fun e c v u r draining all users others => ?_⟩
    · obtain ⟨entered, entries, others, queue⟩ := discards.finish_spared claimless fun e => kept e (all e)
      refine ⟨queue, fun e => (entries e).trans (by rw [counted]),
        fun p apart => others p fun among => apart ((members p).mpr among), ?_⟩
      rw [noted]
      exact takesAll_unsourced entered
    · have gone := (counted e).symm.trans all
      have apart : ∀ f, f ≠ e → _ := fun f ne => kept f (others f ne)
      intro install
      have joined : both ++ [install] =
          ((ps.map fun p => discardReport s p .flushed) ++ [installReport e r]).map fun x => { x with source := .link } := by
        rw [noted, List.map_append]
        rfl
      rw [joined]
      refine ⟨fun three => ?_, ?_⟩
      · obtain ⟨entry, claim, queue, entered⟩ := discards.finish_last_all claimless draining gone users apart fun p =>
          (members p).mp (by cases p <;> simp [named, three])
        exact ⟨entry, claim, queue, takesAll_unsourced entered⟩
      · intro p t unnamed bare leads
        have other : p.other ∈ ps := by
          have among := (members p).not.mp unnamed
          rcases portChoice_cases chosen with rfl | rfl | rfl <;> cases p <;> simp_all [Port.other]
        obtain ⟨agrees, entered⟩ := discards.finish_last claimless draining gone users apart
          (fun among => unnamed ((members p).mpr among)) other leads
        exact ⟨agrees, takesAll_unsourced entered⟩

end Sys2Proof.Proofs
end

section
/-! PROOFS. What the classification again of one port's access leaves alone: the other port, and the marks of its access (R36);
and when it calls for another (R146). -/

namespace Sys2Proof.Machine

open Sys2Proof

/-! ## Another port's classification -/

/-- `Q` is kept by every update that the classification of an access of port `o` makes. -/
structure UpdatesKeep (o : Port) (Q : Work → Prop) : Prop where
  port : ∀ w x, Q w → Q (w.setPort o x)
  waiting : ∀ w t, Q w → Q (w.setWaiting o t)
  snaps : ∀ w l, Q w → Q (w.setSnaps o l)
  recs : ∀ w l, Q w → Q (w.setRecs o l)
  entry : ∀ w e x, Q w → Q (w.setEntry e x)
  claim : ∀ w e x, Q w → Q (w.setClaim e x)
  queue : ∀ w l, Q w → Q (w.setQueue l)
  commit : ∀ w t, Q w → Q (w.setWaitingCommit t)
  report : ∀ w r, Q w → Q (w.report r)
  mark : ∀ w b, Q w → Q (w.setAgain o b)
  notify : ∀ w q f, Q w → Q (w.notify q f)

section Updates
variable {o : Port} {Q : Work → Prop} (keeps : UpdatesKeep o Q) {w : Work} (held : Q w)
include keeps held

theorem UpdatesKeep.reseat (e : EntryIndex) (x : Entry) : Q (w.reseat e x) :=
  keeps.notify _ _ _ (keeps.notify _ _ _ (keeps.claim _ e none (keeps.entry w e x held)))

theorem UpdatesKeep.leave (e : EntryIndex) : Q (w.leave e) := by
  unfold Work.leave
  split
  · exact keeps.entry w e _ held
  · split
    · exact keeps.report _ _ (keeps.reseat held e _)
    · exact keeps.entry w e _ held
  · exact held

theorem UpdatesKeep.join (e : EntryIndex) : Q (w.join e) := by
  unfold Work.join
  split
  · exact keeps.entry w e _ held
  · exact held

theorem UpdatesKeep.withdrawFill (e : EntryIndex) : Q (w.withdrawFill o e) := by
  rw [withdrawFill_eq_setWaiting]
  exact keeps.waiting w _ held

theorem UpdatesKeep.releaseClaim (p : Port) (e : EntryIndex) : Q (w.releaseClaim p e) := by
  unfold Work.releaseClaim
  split
  · exact keeps.notify _ _ _ (keeps.notify _ _ _ (keeps.claim w e none held))
  · exact held

theorem UpdatesKeep.dropSnapshot (e : EntryIndex) : Q (w.dropSnapshot o e) := by
  cases on : w.s.snapshotOn o e with
  | none => rwa [Work.dropSnapshot_none on]
  | some x =>
    rw [Work.dropSnapshot_some on]
    exact keeps.leave (keeps.notify _ _ _ (keeps.withdrawFill (keeps.snaps w _ held) e)) e

theorem UpdatesKeep.dropRecord (e : EntryIndex) : Q (w.dropRecord o e) := by
  cases on : w.s.recordOn o e with
  | none => rwa [Work.dropRecord_none on]
  | some x =>
    rw [Work.dropRecord_some on]
    exact keeps.leave (keeps.releaseClaim (keeps.notify _ _ _ (keeps.recs w _ held)) o e) e

theorem UpdatesKeep.takeHead : Q w.takeHead := by
  unfold Work.takeHead
  split
  · exact held
  · split
    · exact keeps.commit w _ held
    · exact held

theorem UpdatesKeep.enqueue (r : CommitRecord) : Q (w.enqueue r) := by
  unfold Work.enqueue
  dsimp only
  split
  · exact keeps.takeHead (keeps.queue w _ held)
  · exact keeps.queue w _ held

theorem UpdatesKeep.hold (h : Held) (cause : HoldCause) (entry : Option EntryIndex) : Q (w.hold o h cause entry) :=
  keeps.port w _ held

theorem UpdatesKeep.reply (h : Held) (ans : Answer) : Q (w.reply o h ans) := keeps.port w _ held

theorem UpdatesKeep.plain (h : Held) (entry : Option EntryIndex) : Q (w.plain o h entry) :=
  keeps.port _ _ (keeps.waiting w _ held)

theorem UpdatesKeep.openSnapshot (h : Held) (e : EntryIndex) (c : Content) : Q (w.openSnapshot o h e c) :=
  keeps.port _ _ (keeps.waiting _ _ (keeps.join (keeps.snaps w _ held) e))

theorem UpdatesKeep.enterWrite (h : Held) (e : EntryIndex) (c : Content) (bytes : List (Option Byte)) :
    Q (w.enterWrite o h e c bytes) := by
  have answered := keeps.reply held h (okAnswer h.access 0)
  unfold Work.enterWrite
  dsimp only
  split
  · exact keeps.enqueue (keeps.recs _ _ answered) _
  · exact keeps.recs _ _ answered

theorem UpdatesKeep.openAndEnter (h : Held) (e : EntryIndex) (c : Content) : Q (w.openAndEnter o h e c) := by
  have opened := keeps.join (keeps.recs w (w.s.recs.get o ++ [freshRecord e c]) held) e
  refine keeps.enterWrite ?_ h e c _
  unfold Work.openRecord
  dsimp only
  split
  · exact keeps.claim _ e _ opened
  · exact opened

theorem UpdatesKeep.snapshotRead (h : Held) (e : EntryIndex) (c : Content) (d : Bool) : Q (w.snapshotRead o h e c d) := by
  have restart : Q (w.snapshotRestart o h e c d) := by
    unfold Work.snapshotRestart
    split
    · exact keeps.dropSnapshot (keeps.hold held h _ _) e
    · exact keeps.openSnapshot (keeps.dropSnapshot held e) h e c
  unfold Work.snapshotRead
  split
  · split
    · unfold Work.snapshotOpener
      repeat' split
      · exact keeps.hold held h _ _
      · exact keeps.hold held h _ _
      · exact keeps.openSnapshot held h e c
    · unfold Work.strayRead
      dsimp only
      split
      · exact keeps.plain (keeps.report w _ held) h _
      · exact keeps.reply (keeps.report w _ held) h _
  · exact restart
  · next data coverage _ _ =>
    change Q (if h.access.restarts c coverage = true then _ else w.snapshotServe o h e c data coverage)
    split
    · exact restart
    · unfold Work.snapshotServe
      dsimp only
      split
      · exact keeps.dropSnapshot (keeps.reply held h _) e
      · exact keeps.snaps _ _ (keeps.reply held h _)

theorem UpdatesKeep.stagingWrite (h : Held) (e : EntryIndex) (c : Content) (d : Bool) : Q (w.stagingWrite o h e c d) := by
  unfold Work.stagingWrite
  split
  · split
    · unfold Work.recordOpener
      repeat' split
      · exact keeps.hold held h _ _
      · exact keeps.hold held h _ _
      · exact keeps.hold held h _ _
      · exact keeps.openAndEnter held h e c
    · unfold Work.strayWrite
      dsimp only
      split
      · exact keeps.plain (keeps.report w _ held) h _
      · exact keeps.reply (keeps.report w _ held) h _
  · split
    · unfold Work.recordRestart
      dsimp only
      split
      · exact keeps.dropRecord (keeps.hold (keeps.report w _ held) h _ _) e
      · exact keeps.openAndEnter (keeps.leave (keeps.recs _ _ (keeps.report w _ held)) e) h e c
    · exact keeps.enterWrite held h e c _

theorem UpdatesKeep.classifyOn (h : Held) (e : EntryIndex) (c : Content) (d : Bool) : Q (w.classifyOn o h e c d) := by
  have dropped := keeps.dropSnapshot held e
  have ended := keeps.mark _ true (keeps.hold dropped h .drain (some e))
  unfold Work.classifyOn
  dsimp only
  repeat' split
  · exact ended
  · exact keeps.plain dropped h _
  · exact keeps.reply (keeps.report _ _ dropped) h _
  · exact ended
  · exact keeps.stagingWrite dropped h e c d
  · exact keeps.plain dropped h _
  · exact keeps.plain held h _
  · exact keeps.hold held h _ _
  · exact keeps.snapshotRead held h e c d
  · exact keeps.plain held h _

theorem UpdatesKeep.classify (h : Held) : Q (w.classify o h) := by
  unfold Work.classify
  split
  · exact keeps.plain held h _
  · split
    · exact keeps.plain held h _
    · exact keeps.reply (keeps.report w _ held) h _
    · exact keeps.classifyOn held h _ _ _
    · exact keeps.classifyOn held h _ _ _

theorem UpdatesKeep.reclassify : Q (w.reclassify o) := by
  unfold Work.reclassify
  split
  · have idle := keeps.port _ { w.s.ports.get o with state := .idle } (keeps.mark w false held)
    refine keeps.classify ?_ _
    rcases withdraw_cases ((w.setAgain o false).setPortState o .idle) o with same | ⟨e, same⟩
    · rw [same]
      exact keeps.waiting _ _ idle
    · rw [same]
      exact keeps.dropSnapshot (keeps.waiting _ _ idle) e
  · exact keeps.mark w false held

end Updates

/-- A port with what waits for it, and that its access is marked. -/
structure Stands (p : Port) (x : HostPort) (t : Option Transfer) (marked : Prop) (w : Work) : Prop where
  port : w.s.ports.get p = x
  waiting : w.s.mem.waiting.get p = t
  mark : marked → w.again.get p = true

/-- The classification of an access of one port leaves the other port as it is, and what is marked of it. -/
theorem stands_kept {p o : Port} (ne : p ≠ o) (x : HostPort) (t : Option Transfer) (marked : Prop) :
    UpdatesKeep o (Stands p x t marked) where
  port _ _ stands := ⟨(PerPort.get_set_ne _ _ _ _ ne).trans stands.port, stands.waiting, stands.mark⟩
  waiting _ _ stands := ⟨stands.port, (PerPort.get_set_ne _ _ _ _ ne).trans stands.waiting, stands.mark⟩
  snaps _ _ stands := ⟨stands.port, stands.waiting, stands.mark⟩
  recs _ _ stands := ⟨stands.port, stands.waiting, stands.mark⟩
  entry _ _ _ stands := ⟨stands.port, stands.waiting, stands.mark⟩
  claim _ _ _ stands := ⟨stands.port, stands.waiting, stands.mark⟩
  queue _ _ stands := ⟨stands.port, stands.waiting, stands.mark⟩
  commit _ _ stands := ⟨stands.port, stands.waiting, stands.mark⟩
  report _ _ stands := ⟨stands.port, stands.waiting, stands.mark⟩
  mark _ _ stands := ⟨stands.port, stands.waiting, fun marked => (PerPort.get_set_ne _ _ _ _ ne).trans (stands.mark marked)⟩
  notify w q f stands := by
    refine ⟨by rw [Work.notify_s]; exact stands.port, by rw [Work.notify_s]; exact stands.waiting, fun marked => ?_⟩
    rw [notify_again, stands.mark marked, Bool.true_or]

/-! ## When a classification calls for another of the same access (R146) -/

theorem leaveMarks_of_undrained {s : State} {e : EntryIndex} (undrained : (s.entry e).isDraining = false) (q : Port) :
    s.leaveMarks q e = false := leaveMarks_of_spared (spared_of_undrained undrained 1) q

/-- A leaving that marks an access installs the replacement. -/
theorem left_of_leaveMarks {s : State} {q : Port} {e : EntryIndex} (marks : s.leaveMarks q e = true) :
    (s.entry e).left.isDraining = false := by
  unfold State.leaveMarks at marks
  split at marks
  · next c v u r draining =>
    have last : u ≤ 1 := by
      simp only [Bool.and_eq_true, decide_eq_true_eq] at marks
      exact marks.1
    rw [draining, Entry.left, if_pos last]
    cases r <;> rfl
  · contradiction

/-- The access of port `o` is not marked, or it is held for the drain of entry `g` that its own discard has ended. -/
def DrainEnded (o : Port) (h : Held) (g : EntryIndex) (d : Bool) (w : Work) : Prop :=
  w.again.get o = false
    ∨ (d = true ∧ (w.s.entry g).isDraining = false
      ∧ (w.s.ports.get o).state = .held { h with cause := .drain, entry := some g })

section Ended
variable {w : Work} {o : Port} {h : Held} {g : EntryIndex} {c : Content} {d : Bool}

theorem dropSnapshot_ports (w : Work) (p : Port) (e : EntryIndex) : (w.dropSnapshot p e).s.ports = w.s.ports := by
  cases on : w.s.snapshotOn p e with
  | none => rw [Work.dropSnapshot_none on]
  | some x =>
    rw [dropSnapshot_s on]
    rfl

theorem dropRecord_ports (w : Work) (p : Port) (e : EntryIndex) : (w.dropRecord p e).s.ports = w.s.ports := by
  cases on : w.s.recordOn p e with
  | none => rw [Work.dropRecord_none on]
  | some x =>
    rw [dropRecord_s on, left_ports, claimChecked_ports]
    rfl

/-- The discard of its own snapshot does not mark an access that is not HELD. -/
theorem dropSnapshot_again_unheld (unheld : ∀ k, (w.s.ports.get o).state ≠ .held k) (unmarked : w.again.get o = false)
    (e : EntryIndex) : (w.dropSnapshot o e).again.get o = false := by
  cases on : w.s.snapshotOn o e with
  | none => rwa [Work.dropSnapshot_none on]
  | some x => simp [dropSnapshot_again on, unmarked, holds_of_unheld unheld, leaveMarks_of_unheld unheld]

theorem hold_state (w : Work) (o : Port) (h : Held) (cause : HoldCause) (entry : Option EntryIndex) :
    ((w.hold o h cause entry).s.ports.get o).state = .held { h with cause := cause, entry := entry } :=
  withPort_state w.s o _

/-- A read that waits for the drain and discards its snapshot. -/
theorem dropSnapshot_drainEnded (unmarked : w.again.get o = false) :
    DrainEnded o h g true ((w.hold o h .drain (some g)).dropSnapshot o g) := by
  have state := hold_state w o h .drain (some g)
  cases on : (w.hold o h .drain (some g)).s.snapshotOn o g with
  | none =>
    rw [Work.dropSnapshot_none on]
    exact .inl unmarked
  | some x =>
    cases marks : (w.hold o h .drain (some g)).s.leaveMarks o g with
    | false =>
      left
      have same : (w.hold o h .drain (some g)).again.get o = false := unmarked
      rw [dropSnapshot_again on, marks, holds_of_held state, same]
      simp
    | true =>
      refine .inr ⟨rfl, ?_, by rw [dropSnapshot_ports]; exact state⟩
      rw [dropSnapshot_s on, left_entry]
      exact left_of_leaveMarks marks

/-- A write that waits for the drain and discards its OPEN record. -/
theorem dropRecord_drainEnded (unmarked : w.again.get o = false) :
    DrainEnded o h g true ((w.hold o h .drain (some g)).dropRecord o g) := by
  have state := hold_state w o h .drain (some g)
  cases on : (w.hold o h .drain (some g)).s.recordOn o g with
  | none =>
    rw [Work.dropRecord_none on]
    exact .inl unmarked
  | some x =>
    cases marks : (w.hold o h .drain (some g)).s.leaveMarks o g with
    | false =>
      left
      have same : (w.hold o h .drain (some g)).again.get o = false := unmarked
      rw [dropRecord_again on, marks, holds_of_held state, holds_of_held state, same]
      simp
    | true =>
      refine .inr ⟨rfl, ?_, by rw [dropRecord_ports]; exact state⟩
      rw [dropRecord_s on, left_entry, claimChecked_entry]
      exact left_of_leaveMarks marks

section Unheld
variable (unheld : ∀ k, (w.s.ports.get o).state ≠ .held k) (unmarked : w.again.get o = false)
include unheld unmarked

theorem snapshotRead_drainEnded : DrainEnded o h g d (w.snapshotRead o h g c d) := by
  have restart : DrainEnded o h g d (w.snapshotRestart o h g c d) := by
    cases d with
    | true => exact dropSnapshot_drainEnded unmarked
    | false =>
      refine .inl ((congrArg (PerPort.get · o) (openSnapshot_again ..)).trans ?_)
      exact dropSnapshot_again_unheld unheld unmarked g
  unfold Work.snapshotRead
  split
  · split
    · unfold Work.snapshotOpener
      repeat' split
      · exact .inl unmarked
      · exact .inl unmarked
      · exact .inl ((congrArg (PerPort.get · o) (openSnapshot_again ..)).trans unmarked)
    · unfold Work.strayRead
      dsimp only
      split <;> exact .inl unmarked
  · exact restart
  · next data coverage _ _ =>
    change DrainEnded o h g d (if h.access.restarts c coverage = true then _ else w.snapshotServe o h g c data coverage)
    split
    · exact restart
    · unfold Work.snapshotServe
      dsimp only
      split
      · refine .inl (dropSnapshot_again_unheld (w := w.reply o h _) (fun k => ?_) unmarked g)
        exact (withPort_state w.s o (answeredState _ _ _)).symm ▸ answeredState_unheld _ _ _ k
      · exact .inl unmarked

omit unheld in
theorem stagingWrite_drainEnded (undrained : d = false → (w.s.entry g).isDraining = false) :
    DrainEnded o h g d (w.stagingWrite o h g c d) := by
  unfold Work.stagingWrite
  split
  · split
    · unfold Work.recordOpener
      repeat' split
      · exact .inl unmarked
      · exact .inl unmarked
      · exact .inl unmarked
      · exact .inl ((congrArg (PerPort.get · o) (openAndEnter_again ..)).trans unmarked)
    · unfold Work.strayWrite
      dsimp only
      split <;> exact .inl unmarked
  · split
    · cases d with
      | true => exact dropRecord_drainEnded (w := w.report _) unmarked
      | false =>
        refine .inl ((congrArg (PerPort.get · o) (openAndEnter_again ..)).trans ?_)
        refine (leave_again _ o g).trans ?_
        rw [Bool.or_eq_false_iff]
        exact ⟨unmarked, leaveMarks_of_undrained (undrained rfl) o⟩
    · exact .inl ((congrArg (PerPort.get · o) (enterWrite_again ..)).trans unmarked)

theorem classifyOn_drainEnded (serves : w.s.serves g c d = true) : DrainEnded o h g d (w.classifyOn o h g c d) := by
  have dropped := dropSnapshot_again_unheld unheld unmarked g
  have idle : ∀ k, ((w.dropSnapshot o g).s.ports.get o).state ≠ .held k := by
    rw [dropSnapshot_ports]
    exact unheld
  have ended : (d && !((w.dropSnapshot o g).s.entry g).isDraining) = true →
      DrainEnded o h g d ((w.dropSnapshot o g).holdEnded o h g) := fun installed => by
    rw [Bool.and_eq_true, Bool.not_eq_true'] at installed
    exact .inr ⟨installed.1, installed.2, hold_state _ o h .drain (some g)⟩
  have live : d = false → ((w.dropSnapshot o g).s.entry g).isDraining = false := by
    rintro rfl
    obtain ⟨v, u, active⟩ := active_of_serves serves
    obtain ⟨u', active'⟩ := dropSnapshot_active o active
    rw [active']
    rfl
  unfold Work.classifyOn
  dsimp only
  split
  · split
    · split
      · next installed => exact ended installed
      · exact .inl dropped
    · split
      · exact .inl dropped
      · split
        · next installed => exact ended installed
        · split
          · exact stagingWrite_drainEnded dropped live
          · exact .inl dropped
  · split
    · exact .inl unmarked
    · split
      · exact .inl unmarked
      · split
        · exact snapshotRead_drainEnded unheld unmarked
        · exact .inl unmarked

/-- A classification marks its own access only where its discard has ended the drain of the entry it looked up. -/
theorem classify_drainEnded :
    (w.classify o h).again.get o = false
      ∨ ∃ g c, w.s.lookup h.access.word = some g ∧ w.s.serves g c true = true ∧ ((w.classify o h).s.entry g).isDraining = false
        ∧ ((w.classify o h).s.ports.get o).state = .held { h with cause := .drain, entry := some g } := by
  cases found : w.s.lookup h.access.word with
  | none =>
    rw [classify_unfound found]
    exact .inl unmarked
  | some g =>
    have serving : ∀ c d, w.s.serves g c d = true →
        (w.classify o h).again.get o = false
          ∨ ∃ f c, some g = some f ∧ w.s.serves f c true = true ∧ ((w.classify o h).s.entry f).isDraining = false
            ∧ ((w.classify o h).s.ports.get o).state = .held { h with cause := .drain, entry := some f } := fun c d serves => by
      rw [Work.classify_serves found serves]
      rcases classifyOn_drainEnded (h := h) unheld unmarked serves with unmarked | ⟨rfl, ended, state⟩
      · exact .inl unmarked
      · exact .inr ⟨g, c, rfl, serves, ended, state⟩
    cases entry : w.s.entry g with
    | active c v u => exact serving c false (by simp [State.serves, entry])
    | draining c v u r => exact serving c true (by simp [State.serves, entry])
    | empty =>
      left
      simp only [Work.classify, found, entry]
      exact unmarked
    | poisoned c v r k =>
      left
      simp only [Work.classify, found, entry]
      exact unmarked

end Unheld

end Ended

end Sys2Proof.Machine
end

section
/-! PROOFS. The failure of a commit (R23, R37, R66, R82, R113, R150): the poisoned entry stays without users, and the accesses held
on its words are refused: the statement O37. -/

namespace Sys2Proof.Machine

open Sys2Proof

/-! ## A poisoned entry admits nobody (R23, R29) -/

/-- What classifications leave of an entry that is POISONED and has no users. -/
theorem tally_kept {T : Tally} {e : EntryIndex} (poisoned : T.entry.isPoisoned = true) (userless : T.sum = 0) :
    ClassifyKeeps (fun s => s.tally e = T) fun _ s => s.tally e = T := by
  have inactive : ∀ {s : State} {c v u}, s.tally e = T → s.entry e = .active c v u → False := fun {s c v u} same active => by
    have entry : T.entry = .active c v u := by rw [← same]; exact active
    rw [entry] at poisoned
    contradiction
  have snapless : ∀ {s : State} {p x}, s.tally e = T → s.snapshotOn p e = some x → False := fun {s p x} same on => by
    have count := countOn_of_snapshotOn on
    rw [same] at count
    unfold Tally.sum at userless
    cases p <;> simp at count <;> omega
  have openless : ∀ {s : State} {p r}, s.tally e = T → s.recordOn p e = some r → False := fun {s p r} same on => by
    have count := countOn_of_recordOn on
    rw [same] at count
    unfold Tally.sum at userless
    cases p <;> simp at count <;> omega
  have dropSnapshot : ∀ (w : Work) (p : Port) (f : EntryIndex), w.s.tally e = T → (w.dropSnapshot p f).s.tally e = T :=
    fun w p f same => by
      cases on : w.s.snapshotOn p f with
      | none => rwa [Work.dropSnapshot_none on]
      | some x => exact ((onlyTally_dropSnapshot on).others e fun here => snapless same (here ▸ on)).trans same
  have openRecord : ∀ (w : Work) (p : Port) (f : EntryIndex) (c : Content), w.s.tally e = T → e ≠ f →
      (w.openRecord p f c).s.tally e = T :=
    fun w p f c same ne => ((onlyTally_openRecord w p f c).others e ne).trans same
  refine ⟨fun _ _ same => same, fun _ _ _ same _ => same, fun _ _ _ same _ => same, fun _ _ _ _ same => same, dropSnapshot,
    dropSnapshot, fun w p f same => ?_, fun w p h f c v u same active _ _ => ?_, fun w p h f c v u x same active on => ?_,
    fun w p f same kept => ?_, fun w p f c v u same active _ _ _ => openRecord w p f c same ?_,
    fun w p f c v u r same active on => openRecord _ p f c ?_ ?_, fun w p f same kept => ?_, fun w p f bytes same record => ?_⟩
  · cases on : w.s.recordOn p f with
    | none => rwa [Work.dropRecord_none on]
    | some x => exact ((onlyTally_dropRecord on).others e fun here => openless same (here ▸ on)).trans same
  · exact ((onlyTally_openSnapshot w p h f c).others e fun here => inactive same (here ▸ active)).trans same
  · exact ((onlyTally_openSnapshot _ p h f c).others e fun here => inactive same (here ▸ active)).trans (dropSnapshot w p f same)
  · exact (tally_withSnaps_same w.s p (countOn_map _ _ kept)).trans same
  · exact fun here => inactive same (here ▸ active)
  · rw [leave_s]
    have ne : e ≠ f := fun here => inactive same (here ▸ active)
    exact ((tally_left_ne (w.s.withRecs p _) ne).trans (tally_eraseRec_ne w.s p ne)).trans same
  · exact fun here => inactive same (here ▸ active)
  · exact (tally_withRecs_same w.s p (countOn_map _ _ kept)).trans same
  · refine ((onlyTally_enqueue w p f bytes).others e fun here => ?_).trans same
    obtain ⟨r, among, on⟩ := record
    subst here
    have count := (countOn_pos (key := OpenRecord.entry) _ e).mpr ⟨r, among, on⟩
    rw [← tally_opens_get, same] at count
    unfold Tally.sum at userless
    cases p <;> simp at count <;> omega

/-! ## Records only join the tail of the queue (R78) -/

theorem dropSnapshot_queue (w : Work) (p : Port) (e : EntryIndex) : (w.dropSnapshot p e).s.queue = w.s.queue := by
  cases on : w.s.snapshotOn p e with
  | none => rw [Work.dropSnapshot_none on]
  | some x =>
    rw [dropSnapshot_s on]
    rfl

theorem dropRecord_queue (w : Work) (p : Port) (e : EntryIndex) : (w.dropRecord p e).s.queue = w.s.queue := by
  cases on : w.s.recordOn p e with
  | none => rw [Work.dropRecord_none on]
  | some x =>
    rw [dropRecord_s on, left_queue, claimChecked_queue]
    rfl

theorem openSnapshot_queue (w : Work) (p : Port) (h : Held) (e : EntryIndex) (c : Content) :
    (w.openSnapshot p h e c).s.queue = w.s.queue := by
  rw [openSnapshot_s]
  rfl

theorem openRecord_queue (w : Work) (p : Port) (e : EntryIndex) (c : Content) : (w.openRecord p e c).s.queue = w.s.queue := by
  rw [openRecord_s]
  rfl

/-- Classifications leave the records that are queued where they are. -/
theorem queue_kept (q : List CommitRecord) :
    ClassifyKeeps (fun s => ∃ l, s.queue = q ++ l) fun _ s => ∃ l, s.queue = q ++ l where
  choose _ _ before := before
  vacate _ _ _ before _ := before
  occupy _ _ _ before _ := before
  plain _ _ _ _ before := before
  dropSnapshot w p e before := by rwa [dropSnapshot_queue]
  dropSnapshotFree w p e before := by rwa [dropSnapshot_queue]
  dropRecord w p e before := by rwa [dropRecord_queue]
  openSnapshot w p h e c _ _ before _ _ _ := by rwa [openSnapshot_queue]
  reopenSnapshot w p h e c _ _ _ before _ _ := by rwa [openSnapshot_queue, dropSnapshot_queue]
  retouchSnaps _ _ _ before _ := before
  openRecord w p e c _ _ before _ _ _ _ := by rwa [openRecord_queue]
  reopenRecord w p e c _ _ _ before _ _ := by rwa [openRecord_queue, leave_s, left_queue]
  retouchRecs _ _ _ before _ := before
  enqueue w p e bytes before _ := by
    obtain ⟨l, queue⟩ := before
    rw [enqueue_s]
    split
    · next empty =>
      have none : w.s.queue = [] := empty
      rw [queue] at none
      exact ⟨[_], by rw [(List.append_eq_nil_iff.mp none).1]; rfl⟩
    · exact ⟨l ++ [_], by rw [← List.append_assoc, ← queue]; rfl⟩

/-! ## One access classified again -/

/-- The work in which a held access has given up its mark, its state and its request. -/
def vacated (w : Work) (o : Port) : Work := ((w.setAgain o false).setPortState o .idle).withdraw o

section Vacated
variable {w : Work} {o : Port} {h : Held}

theorem reclassify_of_held (held : (w.s.ports.get o).state = .held h) : w.reclassify o = (vacated w o).classify o h := by
  simp only [Work.reclassify, held]
  rfl

theorem reclassify_of_unheld (unheld : ∀ k, (w.s.ports.get o).state ≠ .held k) : w.reclassify o = w.setAgain o false := by
  unfold Work.reclassify
  split
  · next h held => exact absurd held (unheld h)
  · rfl

theorem vacated_unheld (w : Work) (o : Port) (k : Held) : ((vacated w o).s.ports.get o).state ≠ .held k := by
  have idle : ((w.s.withPort o .idle).ports.get o).state = .idle := withPort_state w.s o .idle
  have ports : (vacated w o).s.ports = (w.s.withPort o .idle).ports := by
    unfold vacated
    rcases withdraw_cases ((w.setAgain o false).setPortState o .idle) o with same | ⟨e, same⟩
    · rw [same]
      rfl
    · rw [same, dropSnapshot_ports]
      rfl
  rw [ports, idle]
  exact nofun

theorem vacated_again (w : Work) (o : Port) : (vacated w o).again.get o = false := by
  have cleared : (w.again.set o false).get o = false := PerPort.get_set_same ..
  unfold vacated
  rcases withdraw_cases ((w.setAgain o false).setPortState o .idle) o with same | ⟨e, same⟩
  · rw [same]
    exact cleared
  · rw [same]
    refine dropSnapshot_again_unheld (fun k => ?_) cleared e
    change ((w.s.withPort o .idle).ports.get o).state ≠ .held k
    rw [withPort_state]
    exact nofun

/-- Whatever users leaving and joining keep of an entry, a withdrawal and a classification keep. -/
theorem vacated_entry {K : Entry → Prop} (left : ∀ x, K x → K x.left) (joined : ∀ x, K x → K x.joined) {f : EntryIndex}
    (held : K (w.s.entry f)) : K ((vacated w o).s.entry f) := by
  unfold vacated
  rcases withdraw_cases ((w.setAgain o false).setPortState o .idle) o with same | ⟨e, same⟩
  · rw [same]
    exact held
  · rw [same]
    exact (entry_kept left joined f).dropSnapshot _ o e held

end Vacated

/-! ## An access is marked again at most once (R146) -/

section Calm
variable {w : Work} {o : Port}

/-- All that an entry reserves is in a list. -/
def Entry.reservesIn (l : List Content) (x : Entry) : Prop := x.reserved ⊆ l

theorem reservesIn_left {l : List Content} (x : Entry) (within : x.reservesIn l) : x.left.reservesIn l :=
  List.Subset.trans (Proofs.reserved_left x) within

theorem reservesIn_joined {l : List Content} (x : Entry) (within : x.reservesIn l) : x.joined.reservesIn l :=
  List.Subset.trans (Proofs.reserved_joined x) within

theorem vacated_disjoint (disjoint : w.s.disjoint) (o : Port) : (vacated w o).s.disjoint := by
  have within : ∀ f, ((vacated w o).s.entry f).reserved ⊆ (w.s.entry f).reserved := fun f =>
    vacated_entry reservesIn_left reservesIn_joined (List.Subset.refl _)
  exact fun e f ne c hc d hd => disjoint e f ne c (within e hc) d (within f hd)

theorem reclassify_disjoint (disjoint : w.s.disjoint) (o : Port) : (w.reclassify o).s.disjoint := by
  have within : ∀ f, ((w.reclassify o).s.entry f).reserved ⊆ (w.s.entry f).reserved := fun f =>
    (entry_kept reservesIn_left reservesIn_joined f).reclassify (List.Subset.refl _) o
  exact fun e f ne c hc d hd => disjoint e f ne c (within e hc) d (within f hd)

/-- No DRAINING entry reserves the word of the access held at port `o`. -/
def Calm (o : Port) (w : Work) : Prop :=
  ∀ h, (w.s.ports.get o).state = .held h → ∀ f, (w.s.entry f).isDraining = true →
    ∀ d ∈ (w.s.entry f).reserved, d.covers h.access.word.toNat = false

/-- What `Calm` asks of one entry. -/
def Entry.drainsApart (n : Nat) (x : Entry) : Prop := x.isDraining = true → ∀ d ∈ x.reserved, d.covers n = false

theorem drainsApart_left {n : Nat} (x : Entry) (apart : x.drainsApart n) : x.left.drainsApart n := by
  cases x with
  | draining c v u r =>
    unfold Entry.left
    dsimp only
    split
    · intro drains
      rw [Proofs.installed_isDraining] at drains
      contradiction
    · exact apart
  | _ => exact apart

theorem drainsApart_joined {n : Nat} (x : Entry) (apart : x.drainsApart n) : x.joined.drainsApart n := by
  cases x <;> exact apart

/-- The content a DRAINING entry serves, found by a lookup, holds the word. -/
theorem covers_of_serves {s : State} {n : WordAddr} {g : EntryIndex} {c : Content} {d : Bool} (found : s.lookup n = some g)
    (serves : s.serves g c d = true) : c ∈ (s.entry g).reserved ∧ c.covers n.toNat = true := by
  have content := content_of_serves serves
  have covers := List.find?_some (p := fun e => coversOpt (s.entry e).content? n.toNat) found
  rw [content] at covers
  exact ⟨Proofs.mem_reserved_of_content content, covers⟩

theorem not_covers_of_disjoint {c d : Content} {n : Nat} (apart : c.overlaps d = false) (covers : c.covers n = true) :
    d.covers n = false := by
  rw [Bool.eq_false_iff]
  intro both
  simp only [Content.covers, Content.overlaps, Bool.and_eq_true, decide_eq_true_eq, Bool.and_eq_false_iff,
    decide_eq_false_iff_not] at covers both apart
  omega

/-- A calm access is not marked again when it is classified. -/
theorem again_of_calm (calm : Calm o w) : (w.reclassify o).again.get o = false := by
  by_cases held : ∃ h, (w.s.ports.get o).state = .held h
  · obtain ⟨h, held⟩ := held
    rw [reclassify_of_held held]
    rcases classify_drainEnded (h := h) (vacated_unheld w o) (vacated_again w o) with unmarked | ⟨g, c, found, serves, -⟩
    · exact unmarked
    · obtain ⟨reserved, covers⟩ := covers_of_serves found serves
      have apart : ((vacated w o).s.entry g).drainsApart h.access.word.toNat :=
        vacated_entry drainsApart_left drainsApart_joined (calm h held g)
      rw [apart (State.serves_isDraining serves) c reserved] at covers
      contradiction
  · rw [reclassify_of_unheld (not_exists.mp held)]
    exact PerPort.get_set_same ..

/-- An access that its classification marks again is calm then: the drain of the only entry with its word has ended. -/
theorem calm_of_again (disjoint : w.s.disjoint) (marked : (w.reclassify o).again.get o = true) : Calm o (w.reclassify o) := by
  by_cases held : ∃ h, (w.s.ports.get o).state = .held h
  · obtain ⟨h, held⟩ := held
    rw [reclassify_of_held held] at marked ⊢
    rcases classify_drainEnded (h := h) (vacated_unheld w o) (vacated_again w o) with
      unmarked | ⟨g, c, found, serves, ended, state⟩
    · rw [unmarked] at marked
      contradiction
    · obtain ⟨reserved, covers⟩ := covers_of_serves found serves
      intro k here f drains d inF
      cases state.symm.trans here
      have ne : g ≠ f := by
        rintro rfl
        rw [ended] at drains
        contradiction
      have within : (((vacated w o).classify o h).s.entry f).reserved ⊆ ((vacated w o).s.entry f).reserved :=
        (entry_kept reservesIn_left reservesIn_joined f).classify (List.Subset.refl _)
      exact not_covers_of_disjoint (vacated_disjoint disjoint o g f ne c reserved d (within inF)) covers
  · rw [reclassify_of_unheld (not_exists.mp held)] at marked
    rw [show (w.setAgain o false).again.get o = false from PerPort.get_set_same ..] at marked
    contradiction

end Calm

/-! ## The refusal of an access held on a poisoned entry (R37, R150) -/

/-- The work with another count of draws. -/
def Work.drawn (w : Work) (m : Nat) : Work := { w with s := { w.s with choices := m } }

section Settling
variable {w : Work} {p : Port}

/-- An access marked alone is classified next. -/
theorem settle_alone (marked : w.again.get p = true) (alone : w.again.get p.other = false) (n : Nat) :
    settle (n + 1) w = settle n (w.reclassify p) := by
  cases p with
  | a =>
    rw [PerPort.get_a] at marked
    change w.again.b = false at alone
    simp [settle, marked, alone]
  | b =>
    rw [PerPort.get_b] at marked
    change w.again.a = false at alone
    simp [settle, marked, alone]

/-- With both marked, one of them is classified next, by a draw (log 6). -/
theorem settle_both (marked : ∀ q, w.again.get q = true) (p : Port) (n : Nat) :
    ∃ m, settle (n + 1) w = settle n ((w.drawn m).reclassify p)
      ∨ settle (n + 1) w = settle n ((w.drawn m).reclassify p.other) := by
  have a : w.again.a = true := marked .a
  have b : w.again.b = true := marked .b
  refine ⟨(draw w.s.choices 2).2, ?_⟩
  by_cases first : (draw w.s.choices 2).1 = 0
  · cases p with
    | a => exact .inl (by simp [settle, a, b, first, Work.drawn])
    | b => exact .inr (by simp [settle, a, b, first, Work.drawn, Port.other])
  · cases p with
    | a => exact .inr (by simp [settle, a, b, first, Work.drawn, Port.other])
    | b => exact .inl (by simp [settle, a, b, first, Work.drawn])

/-- A port whose access is not HELD, and waits for nothing, stays as it is whatever is classified. -/
theorem settle_stands {x : HostPort} (unheld : ∀ h, x.state ≠ .held h) (n : Nat) :
    ∀ w, Stands p x none False w → Stands p x none False (settle n w) := by
  have step : ∀ (w : Work) (q : Port), Stands p x none False w → Stands p x none False (w.reclassify q) := by
    intro w q stands
    by_cases same : q = p
    · subst same
      rw [reclassify_of_unheld (by rw [stands.port]; exact unheld)]
      exact ⟨stands.port, stands.waiting, nofun⟩
    · exact (stands_kept (Ne.symm same) x none False).reclassify stands
  induction n with
  | zero => exact fun w stands => stands
  | succ n ih =>
    intro w stands
    have drawn : Stands p x none False (w.drawn (draw w.s.choices 2).2) := ⟨stands.port, stands.waiting, nofun⟩
    unfold settle
    split
    · exact stands
    · exact ih _ (step w .a stands)
    · exact ih _ (step w .b stands)
    · split
      · exact ih _ (step _ .a drawn)
      · exact ih _ (step _ .b drawn)

end Settling

/-- Port `p` is as `x` gives it, with `t` waiting, its access marked, and entry `e` has the tally `T`. -/
structure Doomed (p : Port) (x : HostPort) (t : Option Transfer) (e : EntryIndex) (T : Tally) (w : Work) : Prop where
  stands : Stands p x t True w
  tally : w.s.tally e = T
  disjoint : w.s.disjoint

/-- A host port whose access is refused. -/
def HostPort.refused (x : HostPort) (h : Held) : HostPort :=
  { x with state := if h.released = true then .idle else refusedWith h.access }

/-- The report of a refusal (R29). -/
def refusalReport (p : Port) (e : EntryIndex) (h : Held) : Report :=
  { source := .port p, kind := .poisonRefused, port := some p, entry := some e, address := some h.access.address, detail := none }

section Doomed
variable {w : Work} {p : Port} {x : HostPort} {t : Option Transfer} {e : EntryIndex} {T : Tally} {h : Held} {c : Content}
  {v : BitVec 16} {r : Option Replacement} {k : PoisonCause} (held : x.state = .held h)
  (fills : ∀ y q a b, t = some y → y.purpose = .fill q a b → b = e) (poisoned : T.entry = .poisoned c v r k)
  (userless : T.sum = 0) (covers : c.covers h.access.word.toNat = true)

theorem refused_unheld (x : HostPort) (h k : Held) : (x.refused h).state ≠ .held k := by
  unfold HostPort.refused
  dsimp only
  split <;> exact nofun

include poisoned userless in
/-- The other port's classification leaves a doomed access doomed. -/
theorem Doomed.other (doomed : Doomed p x t e T w) : Doomed p x t e T (w.reclassify p.other) where
  stands := (stands_kept (Port.other_ne p).symm x t True).reclassify doomed.stands
  tally := (tally_kept (by rw [poisoned]; rfl) userless).reclassify doomed.tally p.other
  disjoint := reclassify_disjoint doomed.disjoint p.other

theorem Doomed.drawn (doomed : Doomed p x t e T w) (m : Nat) : Doomed p x t e T (w.drawn m) :=
  ⟨⟨doomed.stands.port, doomed.stands.waiting, doomed.stands.mark⟩, doomed.tally, doomed.disjoint⟩

include fills userless in
/-- The request of a doomed access is withdrawn; its own fill has no snapshot any more. -/
theorem Doomed.vacated_eq (doomed : Doomed p x t e T w) : vacated w p = w.unheld p := by
  have waiting : ((w.setAgain p false).setPortState p .idle).s.mem.waiting.get p = t := doomed.stands.waiting
  have snapless : (w.unheld p).s.snapshotOn p e = none := by
    rw [Option.eq_none_iff_forall_ne_some]
    intro y on
    have count : 0 < (w.s.tally e).snaps.get p := countOn_of_snapshotOn (s := (w.unheld p).s) on
    rw [doomed.tally] at count
    unfold Tally.sum at userless
    cases p <;> simp at count <;> omega
  unfold vacated
  cases t with
  | none => exact withdraw_unfilled fun y _ _ _ some => nomatch waiting.symm.trans some
  | some y =>
    cases purpose : y.purpose with
    | fill q a b =>
      cases fills y q a b rfl purpose
      rw [withdraw_fill waiting purpose]
      exact Work.dropSnapshot_none snapless
    | plain q a f => exact withdraw_plain waiting (by rw [purpose]; exact nofun)
    | commit q f => exact withdraw_plain waiting (by rw [purpose]; exact nofun)

include held fills poisoned userless covers

/-- A doomed access is refused when it is classified again. -/
theorem Doomed.refused (doomed : Doomed p x t e T w) :
    w.reclassify p = (w.unheld p).refusePoisoned p h e := by
  have entry : w.s.entry e = .poisoned c v r k := by
    rw [← poisoned, ← doomed.tally]
    rfl
  have holds : (w.s.entry e).holdsWord h.access.word.toNat := by
    rw [Entry.holdsWord_iff, entry]
    exact covers
  have found : w.s.lookup h.access.word = some e := Proofs.lookup_of_holdsWord doomed.disjoint holds
  rw [reclassify_of_held (by rw [doomed.stands.port]; exact held), doomed.vacated_eq fills userless]
  exact Proofs.classify_poisoned (w := w.unheld p) found entry

theorem Doomed.reclassify (doomed : Doomed p x t e T w) :
    Stands p (x.refused h) none False (w.reclassify p) ∧ (w.reclassify p).reports = w.reports ++ [refusalReport p e h]
      ∧ (w.reclassify p).again = w.again.set p false ∧ (w.reclassify p).s.events = w.s.events := by
  rw [doomed.refused held fills poisoned userless covers]
  refine ⟨⟨?_, ?_, nofun⟩, rfl, rfl, rfl⟩
  · rw [← doomed.stands.port]
    cases p <;> rfl
  · exact PerPort.get_set_same ..

/-- The refusal comes within three classifications: the other access can be marked again once, by its own discard. -/
theorem Doomed.settle_alone (doomed : Doomed p x t e T w) (alone : w.again.get p.other = false) (n : Nat) :
    Stands p (x.refused h) none False (settle (n + 1) w) := by
  rw [Machine.settle_alone (doomed.stands.mark trivial) alone]
  exact settle_stands (refused_unheld x h) n _ (doomed.reclassify held fills poisoned userless covers).1

theorem Doomed.settle_step (doomed : Doomed p x t e T w) (n : Nat)
    (rest : ∀ m, w.again.get p.other = true → Stands p (x.refused h) none False (settle n ((w.drawn m).reclassify p.other))) :
    Stands p (x.refused h) none False (settle (n + 1) w) := by
  cases other : w.again.get p.other with
  | false => exact doomed.settle_alone held fills poisoned userless covers other n
  | true =>
    have both : ∀ q, w.again.get q = true := fun q => by
      by_cases same : q = p
      · exact same ▸ doomed.stands.mark trivial
      · exact eq_other_of_ne same ▸ other
    obtain ⟨m, first | second⟩ := settle_both both p n
    · rw [first]
      exact settle_stands (refused_unheld x h) n _ ((doomed.drawn m).reclassify held fills poisoned userless covers).1
    · rw [second]
      exact rest m other

theorem Doomed.settle (doomed : Doomed p x t e T w) (n : Nat) : Stands p (x.refused h) none False (settle (n + 3) w) := by
  refine doomed.settle_step held fills poisoned userless covers (n + 2) fun m _ => ?_
  have still := (doomed.drawn m).other poisoned userless
  refine still.settle_step held fills poisoned userless covers (n + 1) fun m' marked => ?_
  have calm : Calm p.other (((w.drawn m).reclassify p.other).drawn m') := calm_of_again (doomed.drawn m).disjoint marked
  exact ((still.drawn m').other poisoned userless).settle_alone held fills poisoned userless covers (again_of_calm calm) n

end Doomed

end Sys2Proof.Machine
end

section
/-! PROOFS. What the failure of a commit reports and whom it marks (R82), and the statement O37. -/

namespace Sys2Proof.Machine

open Sys2Proof

/-! ## Reports of one source enter in order (R159) -/

theorem firstReports_seen {rs : List Report} {x : Source} (one : ∀ r ∈ rs, r.source = x) : firstReports [x] rs = [] := by
  induction rs with
  | nil => rfl
  | cons r rs ih =>
    have seen : r.source ∈ [x] := by simp [one r (List.mem_cons_self ..)]
    rw [firstReports, if_pos seen]
    exact ih fun q among => one q (List.mem_cons_of_mem r among)

theorem enterReports_one {x : Source} (rs : List Report) : ∀ (choices : Nat) (q : EventQueue), (∀ r ∈ rs, r.source = x) →
    (enterReports rs.length choices rs q).1 = rs.foldl EventQueue.enter q := by
  induction rs with
  | nil => exact fun _ _ _ => rfl
  | cons r rs ih =>
    intro choices q one
    have later : ∀ y ∈ rs, y.source = x := fun y among => one y (List.mem_cons_of_mem r among)
    have first : firstReports [] (r :: rs) = [r] := by
      rw [firstReports, if_neg (by simp), one r (List.mem_cons_self ..), firstReports_seen later]
    rw [List.length_cons, enterReports, first]
    simp only [List.length_singleton, draw, Nat.le_refl, if_true, List.getElem?_cons_zero, List.erase_cons_head]
    exact ih choices (q.enter r) later

/-! ## The work of a commit's failure (R82) -/

/-- COMMIT_FAILED. -/
def failedReport (r : CommitRecord) (attempts : Nat) : Report :=
  { source := .stagingUnit, kind := .commitFailed, port := some r.port, entry := some r.entry, address := none,
    detail := some attempts }

/-- COMMIT_DISCARDED of a queued record. -/
def discardedReport (r : CommitRecord) : Report :=
  { source := .stagingUnit, kind := .commitDiscarded, port := some r.port, entry := some r.entry, address := none,
    detail := some (maskCount r.bytes) }

/-- The work of a commit's failure up to the notice of the poisoning. -/
def poisoning (w : Work) (r : CommitRecord) (rest : List CommitRecord) (attempts : Nat) : Work :=
  let poisoned := ((w.report (failedReport r attempts)).setEntry r.entry
    ((w.s.entry r.entry).poisonedBy { port := r.port, attempts := attempts })).noticeRecord r.port
  let discarded := (rest.filter fun q => q.entry == r.entry).foldl Work.discardCommit
    (poisoned.setQueue (rest.filter fun q => q.entry != r.entry))
  (((((discarded.poisonSnapshots .a r.entry).poisonSnapshots .b r.entry).poisonRecords .a r.entry).poisonRecords .b
    r.entry).setClaim r.entry none).noticeClaim r.entry

section Failed
variable {w : Work} {r : CommitRecord} {rest : List CommitRecord} {attempts : Nat}

theorem commitFailed_eq (head : w.s.queue = r :: rest) :
    w.commitFailed attempts =
      ((poisoning w r rest attempts).noticeTable r.entry (w.s.entry r.entry).content? (w.s.entry r.entry).content?).takeHead := by
  unfold Work.commitFailed
  rw [head]
  rfl

theorem discardCommits_reports (l : List CommitRecord) : ∀ w : Work,
    (l.foldl Work.discardCommit w).reports = w.reports ++ l.map discardedReport := by
  induction l with
  | nil => exact fun w => (List.append_nil _).symm
  | cons r l ih =>
    intro w
    rw [List.foldl_cons, ih, Work.discardCommit, Work.noticeRecord_reports, List.map_cons, List.append_cons]
    rfl

theorem poisonSnapshots_reports (w : Work) (p : Port) (e : EntryIndex) : (w.poisonSnapshots p e).reports = w.reports := by
  unfold Work.poisonSnapshots
  split
  · rw [Work.noticeSlot_reports, withdrawFill_reports]
    rfl
  · rfl

theorem poisonRecords_reports (w : Work) (p : Port) (e : EntryIndex) : (w.poisonRecords p e).reports = w.reports := by
  unfold Work.poisonRecords
  split
  · rw [Work.noticeRecord_reports]
    rfl
  · rfl

theorem commitFailed_reports (head : w.s.queue = r :: rest) :
    (w.commitFailed attempts).reports =
      w.reports ++ failedReport r attempts :: (rest.filter fun q => q.entry == r.entry).map discardedReport := by
  rw [commitFailed_eq head, takeHead_reports, Work.noticeTable_reports, poisoning, Work.noticeClaim_reports]
  dsimp only [Work.setClaim]
  rw [poisonRecords_reports, poisonRecords_reports, poisonSnapshots_reports, poisonSnapshots_reports, discardCommits_reports]
  dsimp only [Work.setQueue]
  rw [Work.noticeRecord_reports, List.append_cons]
  rfl

/-- The ports are as `ports` gives them, and no access is marked that is not HELD. -/
def MarksHeld (ports : PerPort HostPort) (w : Work) : Prop :=
  w.s.ports = ports ∧ ∀ q, (∀ h, (ports.get q).state ≠ .held h) → w.again.get q = false

section Marks
variable {ports : PerPort HostPort} (marks : MarksHeld ports w)
include marks

theorem MarksHeld.notify (p : Port) (f : Held → Bool) : MarksHeld ports (w.notify p f) := by
  obtain ⟨same, unmarked⟩ := marks
  refine ⟨by rw [Work.notify_s]; exact same, fun q unheld => ?_⟩
  rw [notify_again, unmarked q unheld, holds_of_unheld (by rw [same]; exact unheld), Bool.and_false, Bool.or_false]

theorem MarksHeld.notifyBoth (f : Held → Bool) : MarksHeld ports (w.notifyBoth f) := (marks.notify .a f).notify .b f

theorem MarksHeld.report (r : Report) : MarksHeld ports (w.report r) := marks

theorem MarksHeld.setEntry (e : EntryIndex) (x : Entry) : MarksHeld ports (w.setEntry e x) := marks

theorem MarksHeld.setClaim (e : EntryIndex) (x : Option Port) : MarksHeld ports (w.setClaim e x) := marks

theorem MarksHeld.setQueue (l : List CommitRecord) : MarksHeld ports (w.setQueue l) := marks

theorem MarksHeld.setSnaps (p : Port) (l : List Snapshot) : MarksHeld ports (w.setSnaps p l) := marks

theorem MarksHeld.setRecs (p : Port) (l : List OpenRecord) : MarksHeld ports (w.setRecs p l) := marks

theorem MarksHeld.setWaiting (p : Port) (t : Option Transfer) : MarksHeld ports (w.setWaiting p t) := marks

theorem MarksHeld.poisonSnapshots (p : Port) (e : EntryIndex) : MarksHeld ports (w.poisonSnapshots p e) := by
  unfold Work.poisonSnapshots
  split
  · rw [withdrawFill_eq_setWaiting]
    exact ((marks.setSnaps p _).setWaiting p _).notify p _
  · exact marks

theorem MarksHeld.poisonRecords (p : Port) (e : EntryIndex) : MarksHeld ports (w.poisonRecords p e) := by
  unfold Work.poisonRecords
  split
  · exact (marks.setRecs p _).notify p _
  · exact marks

theorem MarksHeld.discardCommits (l : List CommitRecord) : MarksHeld ports (l.foldl Work.discardCommit w) := by
  induction l generalizing w with
  | nil => exact marks
  | cons r l ih => exact ih ((marks.report _).notify r.port _)

theorem MarksHeld.poisoning (r : CommitRecord) (rest : List CommitRecord) (attempts : Nat) :
    MarksHeld ports (poisoning w r rest attempts) := by
  have poisoned := ((marks.report (failedReport r attempts)).setEntry r.entry
    ((w.s.entry r.entry).poisonedBy { port := r.port, attempts := attempts })).notify r.port fun h => h.cause == .record
  have discarded := (poisoned.setQueue (rest.filter fun q => q.entry != r.entry)).discardCommits
    (rest.filter fun q => q.entry == r.entry)
  have emptied := (((discarded.poisonSnapshots .a r.entry).poisonSnapshots .b r.entry).poisonRecords .a r.entry).poisonRecords
    .b r.entry
  exact (emptied.setClaim r.entry none).notifyBoth fun h => h.cause == .claim && h.entry == some r.entry

end Marks

/-- The failure of a commit marks held accesses alone, and every one on a word of the entry (R37). -/
theorem commitFailed_again (head : w.s.queue = r :: rest) (unmarked : w.again = ⟨false, false⟩) :
    (∀ q, (∀ h, (w.s.ports.get q).state ≠ .held h) → (w.commitFailed attempts).again.get q = false)
      ∧ ∀ q h, (w.s.ports.get q).state = .held h →
        coversOpt (w.s.entry r.entry).content? h.access.word.toNat = true → (w.commitFailed attempts).again.get q = true := by
  have marks : MarksHeld w.s.ports (poisoning w r rest attempts) :=
    MarksHeld.poisoning ⟨rfl, fun q _ => (unmarked_iff w).mp unmarked q⟩ r rest attempts
  rw [commitFailed_eq head, takeHead_again]
  refine ⟨fun q unheld => (marks.notifyBoth _).2 q unheld, fun q h held covers => ?_⟩
  refine (notifyBoth_again _ q _).trans ?_
  rw [holds_of_held (by rw [marks.1]; exact held), covers, Bool.or_true, Bool.or_true]

end Failed

/-! ## The end of a commit that has failed -/

theorem settle_quiet {w : Work} (quiet : w.again = ⟨false, false⟩) (n : Nat) : settle n w = w := by
  cases n with
  | zero => rfl
  | succ n => simp [settle, quiet]

/-- The tally a poisoning leaves. -/
def poisonedTally (x : Entry) (k : PoisonCause) : Tally :=
  { entry := x.poisonedBy k, holder := none, snaps := ⟨0, 0⟩, opens := ⟨0, 0⟩, queued := ⟨0, 0⟩ }

/-- The content of an entry that serves, with a commit record on it that fails (R23). -/
theorem poisonedBy_live {x : Entry} {c : Content} {v : BitVec 16} {u : Nat} (k : PoisonCause)
    (live : x = .active c v u ∨ ∃ y, x = .draining c v u y) : ∃ y, x.poisonedBy k = .poisoned c v y k := by
  rcases live with rfl | ⟨y, rfl⟩
  · exact ⟨none, rfl⟩
  · exact ⟨some y, rfl⟩

/-- The work of the failure of the commit in flight. -/
def failure (s : State) (attempts : Nat) : Work := (s.begin.setInFlight none).commitFailed attempts

section Failure
variable {s : State} {r : CommitRecord} {rest : List CommitRecord} {n : Nat} (head : s.queue = r :: rest)
include head

theorem failure_tally : (failure s n).s.tally r.entry = poisonedTally (s.entry r.entry) { port := r.port, attempts := n } :=
  (onlyTally_commitFailed (w := s.begin.setInFlight none) head n).here

theorem failure_s : ∃ t, (failure s n).s = ((s.withInFlight none).poisonedBy r rest n).withWaitingCommit t :=
  ⟨_, commitFailed_s (w := s.begin.setInFlight none) head n⟩

theorem failure_entry (f : EntryIndex) :
    (failure s n).s.entry f =
      if f = r.entry then (s.entry r.entry).poisonedBy { port := r.port, attempts := n } else s.entry f := by
  obtain ⟨t, state⟩ := failure_s (n := n) head
  rw [state]
  split
  · next same =>
    subst same
    exact withEntry_entry s r.entry _
  · next ne => exact withEntry_entry_ne s _ ne

theorem failure_disjoint (disjoint : s.disjoint) : (failure s n).s.disjoint := by
  have within : ∀ f, ((failure s n).s.entry f).reserved ⊆ (s.entry f).reserved := fun f => by
    rw [failure_entry head]
    split
    · next same =>
      subst same
      exact Proofs.reserved_poisonedBy _ _
    · exact List.Subset.refl _
  exact fun e f ne c hc d hd => disjoint e f ne c (within e hc) d (within f hd)

theorem failure_events : (failure s n).s.events = s.events := by
  obtain ⟨t, state⟩ := failure_s (n := n) head
  rw [state]
  rfl

/-- What the failure leaves of a port: a fill that waits for the entry may be withdrawn (R66). -/
theorem failure_waiting {p : Port} {y : Transfer} (waits : (failure s n).s.mem.waiting.get p = some y) :
    s.mem.waiting.get p = some y := by
  obtain ⟨t, state⟩ := failure_s (n := n) head
  have fill : (s.withInFlight none).fillPoisoned p r.entry = some y := by
    rw [state] at waits
    cases p <;> exact waits
  unfold State.fillPoisoned State.fillWithdrawn at fill
  split at fill
  · split at fill
    · exact fill
    · contradiction
  · exact fill

/-- The queue keeps the order of the records that stay. -/
theorem failure_finish_queue : ∃ l, (failure s n).finish.queue = (rest.filter fun q => q.entry != r.entry) ++ l := by
  obtain ⟨t, state⟩ := failure_s (n := n) head
  refine (queue_kept _).settle Config.settleFuel (failure s n) ⟨[], ?_⟩
  rw [state, List.append_nil]
  rfl

theorem failure_reports :
    (failure s n).reports = failedReport r n :: (rest.filter fun q => q.entry == r.entry).map discardedReport :=
  commitFailed_reports (w := s.begin.setInFlight none) head

theorem failure_again :
    (∀ q, (∀ h, (s.ports.get q).state ≠ .held h) → (failure s n).again.get q = false)
      ∧ ∀ q h, (s.ports.get q).state = .held h →
        coversOpt (s.entry r.entry).content? h.access.word.toNat = true → (failure s n).again.get q = true :=
  commitFailed_again (w := s.begin.setInFlight none) head rfl

/-- What is kept of the entry to the end of the event. -/
theorem failure_finish_tally {c : Content} {v : BitVec 16} {u : Nat}
    (live : s.entry r.entry = .active c v u ∨ ∃ x, s.entry r.entry = .draining c v u x) :
    (failure s n).finish.tally r.entry = poisonedTally (s.entry r.entry) { port := r.port, attempts := n } := by
  obtain ⟨y, poisoned⟩ := poisonedBy_live { port := r.port, attempts := n } live
  refine (tally_kept (T := poisonedTally (s.entry r.entry) { port := r.port, attempts := n }) ?_ rfl).settle Config.settleFuel
    (failure s n) (failure_tally head)
  rw [poisonedTally, poisoned]
  rfl

/-- With no access HELD the reports enter in order (R82, R159). -/
theorem failure_finish_events (unheld : ∀ q h, (s.ports.get q).state ≠ .held h) :
    (failure s n).finish.events =
      ((rest.filter fun q => q.entry == r.entry).map discardedReport).foldl EventQueue.enter
        (s.events.enter (failedReport r n)) := by
  have quiet : (failure s n).again = ⟨false, false⟩ := (unmarked_iff _).mpr fun q => (failure_again head).1 q (unheld q)
  have one : ∀ x ∈ (failure s n).reports, x.source = .stagingUnit := fun x among => by
    rw [failure_reports head] at among
    rcases List.mem_cons.mp among with rfl | later
    · rfl
    · obtain ⟨q, -, rfl⟩ := List.mem_map.mp later
      rfl
  rw [Work.finish_quiet quiet]
  refine (enterReports_one (failure s n).reports _ _ one).trans ?_
  rw [failure_reports head, failure_events head]
  rfl

section Refusal
variable {p : Port} {h : Held} {c : Content} {v : BitVec 16} {u : Nat} (disjoint : s.disjoint)
  (live : s.entry r.entry = .active c v u ∨ ∃ x, s.entry r.entry = .draining c v u x) (held : (s.ports.get p).state = .held h)
  (found : s.lookup h.access.word = some r.entry)
  (fills : ∀ k q a b, s.mem.waiting.get p = some k → k.purpose = .fill q a b → b = r.entry)

omit head in
include live found in
theorem covers_of_found : c.covers h.access.word.toNat = true := by
  have covers := List.find?_some (p := fun e => coversOpt (s.entry e).content? h.access.word.toNat) found
  rcases live with entry | ⟨x, entry⟩ <;> rw [entry] at covers <;> exact covers

include disjoint held found in
/-- An access held on a word of the entry is doomed. -/
theorem failure_doomed :
    Doomed p (s.ports.get p) ((failure s n).s.mem.waiting.get p) r.entry
      (poisonedTally (s.entry r.entry) { port := r.port, attempts := n }) (failure s n) := by
  obtain ⟨t, state⟩ := failure_s (n := n) head
  refine ⟨⟨?_, rfl, fun _ => (failure_again head).2 p h held ?_⟩, failure_tally head, failure_disjoint head disjoint⟩
  · rw [state]
    rfl
  · exact List.find?_some (p := fun e => coversOpt (s.entry e).content? h.access.word.toNat) found

include disjoint live held found fills

theorem failure_finish_refused :
    (failure s n).finish.ports.get p = (s.refuses p h).ports.get p ∧ (failure s n).finish.mem.waiting.get p = none := by
  obtain ⟨y, poisoned⟩ := poisonedBy_live { port := r.port, attempts := n } live
  obtain ⟨port, waiting, -⟩ := (failure_doomed (n := n) head disjoint held found).settle held
    (fun k q a b some fill => fills k q a b (failure_waiting head some) fill) poisoned rfl (covers_of_found live found) 61
  refine ⟨port.trans ?_, waiting⟩
  exact (PerPort.get_set_same ..).symm

theorem failure_finish_two (unheld : ∀ g, (s.ports.get p.other).state ≠ .held g) (none : ∀ q ∈ rest, q.entry ≠ r.entry) :
    s.events.takesAll [failedReport r n, refusalReport p r.entry h] (failure s n).finish.events := by
  obtain ⟨y, poisoned⟩ := poisonedBy_live { port := r.port, attempts := n } live
  have doomed := failure_doomed (n := n) head disjoint held found
  obtain ⟨-, reports, again, events⟩ := doomed.reclassify held
    (fun k q a b some fill => fills k q a b (failure_waiting head some) fill) poisoned rfl (covers_of_found live found)
  have alone : (failure s n).again.get p.other = false := (failure_again head).1 p.other unheld
  have empty : (rest.filter fun q => q.entry == r.entry) = [] := by simpa using none
  rw [failure_reports head, empty] at reports
  have takes := close_takesAll ((failure s n).reclassify p)
  rw [reports, events, failure_events head] at takes
  have ends : (failure s n).finish = ((failure s n).reclassify p).close := by
    unfold Work.finish
    rw [show Config.settleFuel = 63 + 1 from rfl, settle_alone (doomed.stands.mark trivial) alone,
      settle_quiet (again.trans (cleared_of_alone alone))]
  rw [ends]
  exact takes

end Refusal

end Failure

theorem recorded_foldl (e : EntryIndex) (l : List CommitRecord) (on : ∀ n ∈ l, n.entry = e) : ∀ s : State,
    (l.foldl (fun (z : State) n =>
        z.recorded .commitDiscarded (some n.port) (some e) none (some (maskCount n.bytes))) s).events =
      (l.map discardedReport).foldl EventQueue.enter s.events := by
  induction l with
  | nil => exact fun _ => rfl
  | cons n l ih =>
    intro s
    have here := on n (List.mem_cons_self ..)
    rw [List.foldl_cons, ih (fun m among => on m (List.mem_cons_of_mem n among)), List.map_cons, List.foldl_cons, discardedReport,
      here]
    rfl

end Sys2Proof.Machine

namespace Sys2Proof.Proofs

open Sys2Proof Sys2Proof.Machine

/-- Settles O37. The entry is poisoned and left without users, which nothing in the event undoes; an access held on its words is
marked, and refused whenever its turn comes. -/
theorem commitFailurePoisonsEntry : Obligations.CommitFailurePoisonsEntry := by
  unfold Obligations.CommitFailurePoisonsEntry
  intro i s f q g r rest c v u flying purpose writes last why head e
  have fails : Instr.failsAttempt i f := by
    rcases why with ⟨mst, rfl, bad⟩ | ⟨rfl, due⟩
    · exact .inr (.inl ⟨mst, rfl, writes, bad⟩)
    · exact .inr (.inr ⟨rfl, due⟩)
  have row : exec i s = .next (failure s f.attempts).finish := by
    rw [exec_of_failsAttempt flying fails, attemptFailed_last last, Work.transferFailed, purpose]
    rfl
  have tally := fun live => failure_finish_tally (n := f.attempts) (c := c) (v := v) (u := u) head live
  have entry := fun live => congrArg Tally.entry (tally live)
  refine ⟨_, row, fun active => ?_, fun x draining => ?_, fun live => ⟨?_, ?_, failure_finish_queue head⟩, fun unheld => ?_,
    fun p h disjoint live held found fills => ?_⟩
  · refine (entry (.inl active)).trans ?_
    rw [poisonedTally, active]
    rfl
  · refine (entry (.inr ⟨x, draining⟩)).trans ?_
    rw [poisonedTally, draining]
    rfl
  · rw [userSum_eq, tally live]
    rfl
  · exact congrArg Tally.holder (tally live)
  · rw [failure_finish_events head unheld, recorded_foldl]
    · rfl
    · exact fun n among => by simpa using (List.mem_filter.mp among).2
  · have own := fun k q a b => fills k a q b
    obtain ⟨port, waiting⟩ := failure_finish_refused (n := f.attempts) head disjoint live held found own
    refine ⟨port, waiting, fun unheld none => ?_⟩
    have either := takesAll_two (failure_finish_two (n := f.attempts) head disjoint live held found own unheld none)
    exact either

end Sys2Proof.Proofs
end
